-- ==== Sys2Proof/Config.lean ====
section
/-! DEFINITION. The constants the manual fixes. Times are counted in periods of the 10 MHz clock, 100 ns each
(Pins table of the Introduction, R88). The manual leaves no value open, so nothing here is opaque. -/

namespace Sys2Proof.Config

/-- The frame period, 16.000 ms, loaded into the cadence timer at every accepted mark (R3). -/
def framePeriod : Nat := 160000

/-- The first period after cold start, 24 ms (R5). -/
def firstPeriod : Nat := 240000

/-- The least time from one accepted mark to a candidate mark that is accepted, 15.0 ms (R3, R4). -/
def earlyLimit : Nat := 150000

/-- How long the controller drives the pulse line low at its own expiry, 20 µs (R2). -/
def pulseLow : Nat := 200

/-- How long the pulse line must have stayed high for a muted controller to return to NORMAL at an expiry,
128 ms (R7). -/
def mutedRecovery : Nat := 1280000

/-- The length of a slot, 1 ms (R8). -/
def slotPeriod : Nat := 10000

/-- When a station begins its message in its own slot, 100 µs (R8, R16). -/
def ownStart : Nat := 1000

/-- One bit-time of the message line, 1 µs at 1 Mbit/s (Principal Figures of the Introduction, R8). -/
def bitTime : Nat := 10

/-- The greatest payload of a message, in bytes (R11, R21). -/
def maxPayload : Nat := 80

/-- The listening countdown after cold start (R39). -/
def listening : Nat := 66

/-- The silent count at which a peer becomes ABSENT (R27). -/
def silentLimit : Nat := 8

/-- The words of pattern memory (R66). -/
def patternWords : Nat := 32768

/-- The most non-step codes one code run may execute (R82). -/
def runLimit : Nat := 64

/-- Full scale of the converters, in mV and in mA (R51). -/
def fullScale : Nat := 16383

/-- The voltage below which a falling rail counts as down, in mV (R57). -/
def railDown : Nat := 500

/-- The mark after opening at which FALLING ends whatever the rails read (R57). -/
def fallLimit : Nat := 8

/-- The most entries of the settling queue (R116). -/
def queueLimit : Nat := 32

/-- The most records of the suspect table (R115). -/
def tableLimit : Nat := 48

/-- The most pinned records (R133). -/
def pinLimit : Nat := 8

/-- The score at which a record is SUSPECT, and below which it may be evicted (R124, R131). -/
def suspectScore : Nat := 256

/-- The score at which a record is latched (R128). -/
def latchScore : Nat := 2048

/-- The limit of the 16-bit saturating and halved counters (R115, R126). -/
def counterLimit : Nat := 65535

/-- The most replies in the reply queue (R179). -/
def replyQueueLimit : Nat := 8

/-- The reply limit after cold start and warm restart (R179). -/
def replyLimit : Nat := 64

/-- The default levels of causes 1 to 15 (R145). -/
def defaultLevels : Vector Nat 15 := #v[2, 6, 6, 5, 3, 1, 4, 2, 5, 3, 3, 4, 7, 4, 5]

end Sys2Proof.Config
end

