-- ==== Sys2Proof/Word.lean ====
section
/-! DEFINITION. The plain words the B340 manual speaks in: bytes of the link, words of pattern memory, frame
numbers, and the numbers of lanes, rails and pins. -/

namespace Sys2Proof

/-- A byte of the link, of eight stimulus or capture pins, or of a tag (R193, R100). -/
abbrev Byte := BitVec 8

/-- A word of pattern memory (R66), and the 16-bit CRC of R13 and R110. -/
abbrev Word := BitVec 16

/-- A frame number: a 32-bit count taken modulo 2^32 (R1). -/
abbrev Frame := BitVec 32

/-- A stimulus lane, and the capture lane paired with it: 0 to 3 (R84, R100). -/
abbrev LaneId := Fin 4

/-- A supply rail: 0 to 3 (R45). -/
abbrev RailId := Fin 4

/-- A station of the rack, and the slot it owns: 0 to 15 (R8, R9). -/
abbrev StationId := Fin 16

/-- One byte for each of the four lanes' eight capture pins, pin k as bit k (R100, R101). -/
abbrev CapturePins := Vector Byte 4

end Sys2Proof
end

