-- ==== Sys2Proof/Syntax.lean ====
section
/-! DEFINITION. The commands of the B340: one constructor for each row of spec/opcode_table.json. The first
sixteen rows are events the world presents to the controller, and carry what the controller sees of the world at
that event. The other rows are command items of the bench (R180, R198), and carry the sequence number and the
argument bytes of the item. -/

namespace Sys2Proof

/-- The five electrical converter channels (R51). -/
inductive Channel where
  | rail (r : RailId)
  | current
deriving DecidableEq, Repr

/-- What the temperature channel reads (R61): a number of half-degrees, in range or not, or an open sensor. -/
inductive TempReading where
  | halfDegrees (t : Int)
  | sensorOpen
deriving DecidableEq, Repr

/-- What the controller sees of the world at an accepted mark, and which of the orders that the manual leaves
free the world takes. -/
structure MarkView where
  /-- Whether the slot that the mark ends has seen line activity (R12, R15). -/
  lineActive : Bool
  /-- The temperature reading that completes at the mark (R61). -/
  temperature : TempReading
  /-- The capture pins, read by a lane that is started at the mark (R86, R101). -/
  pins : CapturePins
  /-- Whether the attribution engine settles before the monitor handles the mark (R130: either may be first). -/
  settleFirst : Bool
  /-- Whether the cause unit makes its offers before the monitor and the engine handle the mark (R148, R152:
  either may be first). -/
  offersFirst : Bool
deriving DecidableEq, Repr

/-- What a block may do of its own between two command items of one message (R180): a lane's step event, with the
lane's capture pins, or a conversion that completes. An early settle falls inside either. -/
inductive BlockEvent where
  | step (lane : LaneId) (pins : Byte)
  | sample (channel : Channel) (reading : Nat)
deriving DecidableEq, Repr

/-- What the controller sees of the world as it takes a message, and what its blocks do of their own meanwhile. -/
structure MessageView where
  /-- The capture pins, for lanes that a command item of the message starts or resumes. -/
  pins : CapturePins
  /-- For each place between two command items of a slot-0 message, in order, what the blocks do there (R180:
  nothing, or step events and samples). -/
  between : List (List BlockEvent)
deriving DecidableEq, Repr

/-- A command of the block, in the order of spec/opcode_table.json. Times are in 100 ns periods. -/
inductive Instr where
  /-- COLD_START (R5): power-on or the reset pin, with the two straps as read (R9). -/
  | coldStart (bay : BitVec 4) (budget : BitVec 2)
  /-- CADENCE_TIMER_EXPIRY (R2), with how long the pulse line has stayed high (R7). -/
  | cadenceTimerExpiry (lineHigh : Nat) (view : MarkView)
  /-- CANDIDATE_MARK (R3): a leading edge, with the time since the last accepted mark (since cold start where
  there is none). -/
  | candidateMark (sinceMark : Nat) (view : MarkView)
  /-- PULSE_LINE_STUCK_LOW (R6). -/
  | pulseLineStuckLow
  /-- CLEAN_MARK_RELEASE (R7). -/
  | cleanMarkRelease
  /-- HEADER_RECEIVED (R10): the four bytes, in order of arrival. -/
  | headerReceived (b0 b1 b2 b3 : Byte)
  /-- MESSAGE_COMPLETE (R13): the awaited bytes, payload and checksum. -/
  | messageComplete (bytes : List Byte) (view : MessageView)
  /-- LINE_IDLE_TIMEOUT (R12). -/
  | lineIdleTimeout
  /-- FRAMING_ERROR (R12). -/
  | framingError
  /-- SLOT_END (R15), with whether the slot has seen line activity. -/
  | slotEnd (lineActive : Bool)
  /-- OWN_SLOT_TRANSMIT (R16). -/
  | ownSlotTransmit
  /-- COLLISION (R17). -/
  | collision
  /-- TRANSMISSION_CLEAN (R18). -/
  | transmissionClean
  /-- CONVERTER_SAMPLE (R51): a conversion completes on a channel. -/
  | converterSample (channel : Channel) (reading : Nat)
  /-- STEP_TIMER_EXPIRY (R87) of a lane, with the lane's capture pins. -/
  | stepTimerExpiry (lane : LaneId) (pins : Byte)
  /-- DWELL_END (R169). -/
  | dwellEnd
  /-- UNKNOWN_COMMAND (R181): a command item whose kind names no command. -/
  | unknownCommand (kind seq : Byte) (args : List Byte)
  | load (seq : Byte) (args : List Byte)
  | jobLanes (seq : Byte) (args : List Byte)
  | jobRails (seq : Byte) (args : List Byte)
  | jobLimits (seq : Byte) (args : List Byte)
  | jobCauses (seq : Byte) (args : List Byte)
  /-- START (R162), with the capture pins for the lanes it may start at once. -/
  | start (seq : Byte) (args : List Byte) (pins : CapturePins)
  | pause (seq : Byte) (args : List Byte)
  /-- RESUME (R167), with the capture pins for a lane that steps at the resume itself (R93). -/
  | resume (seq : Byte) (args : List Byte) (pins : CapturePins)
  | abort (seq : Byte) (args : List Byte)
  | power (seq : Byte) (args : List Byte)
  | clearTable (seq : Byte) (args : List Byte)
  | pin (seq : Byte) (args : List Byte)
  | unpin (seq : Byte) (args : List Byte)
  | queryHeader (seq : Byte) (args : List Byte)
  | queryTable (seq : Byte) (args : List Byte)
  | querySnapshot (seq : Byte) (args : List Byte)
  | queryCauses (seq : Byte) (args : List Byte)
  | clearCauses (seq : Byte) (args : List Byte)
  | queryLanes (seq : Byte) (args : List Byte)
  | queryJob (seq : Byte) (args : List Byte)
  | queryPeers (seq : Byte) (args : List Byte)
  | queryMonitor (seq : Byte) (args : List Byte)
  | replyLimit (seq : Byte) (args : List Byte)
  | restart (seq : Byte) (args : List Byte)
deriving DecidableEq, Repr

end Sys2Proof
end

