-- ==== Sys2Proof/Machine/State.lean ====
section
/-! DEFINITION. The state of the B340, block by block as the manual's chapters give it, its value after cold
start, and the reasons a step can stop. -/

namespace Sys2Proof.Machine

/-- No command of this block faults: the manual gives every event and every command item an effect. -/
inductive Fault : Type
deriving DecidableEq, Repr

/-- Why a command is refused. -/
inductive Refusal where
  /-- Raised by an arm of `exec` whose command has no meaning yet; no arm raises it now. Safe. -/
  | notModelled (mnemonic : String)
deriving DecidableEq, Repr

/-! ## The rack link (R1) -/

/-- The link modes (R1, R6, R7, R9, R19). -/
inductive LinkMode where
  | normal | muted | listenOnly
deriving DecidableEq, Repr

/-- The kinds of the error summary (R20), in the order of their bits (R196). -/
inductive ErrorKind where
  | hdrCorrected | hdrUncorrectable | checksum | truncated | slotMismatch
  | overlong | unknownItem | earlyMark | collision | replyOverflow
deriving DecidableEq, Repr

/-- A set of error kinds: bit k is kind k of R196. -/
abbrev ErrorSet := BitVec 16

/-- A set of bays, bit b for bay b (R193). -/
abbrev BaySet := BitVec 16

/-- A set of causes, bit k for cause k (R193). -/
abbrev CauseSet := BitVec 16

/-- An entry of the DISTURB queue (R23): a frame and its sources. -/
structure Disturb where
  frame : Frame
  rail : Bool
  burst : Bool
deriving DecidableEq, Repr

/-- The reception of the current slot (R10 to R12). -/
inductive Reception where
  /-- No four bytes have arrived in the slot. -/
  | idle
  /-- A usable header has declared a payload length and an item count; the payload and checksum are awaited. -/
  | awaiting (length count : Nat)
  /-- The slot's message was completed or discarded; later activity is not received. -/
  | done
deriving DecidableEq, Repr

/-- The own message while it is being transmitted (R16): what it carries, for R18, and its bytes as sent. -/
structure Flight where
  errors : ErrorSet
  disturbs : List Disturb
  ask : Option Nat
  replies : Nat
  notices : CauseSet
  bytes : List Byte
deriving DecidableEq, Repr

/-- The link controller (R1, R8, R9, R12, R16, R19). -/
structure Link where
  /-- The bay strap, as read at cold start (R9). -/
  bay : BitVec 4
  /-- The budget strap, as read at cold start; the strap budget is one more (R9). -/
  budgetStrap : BitVec 2
  frame : Frame
  /-- The cadence timer, held as the moment at which it expires. -/
  cadenceDue : Nat
  /-- The moment of the last accepted mark. -/
  previousMark : Option Nat
  /-- Whether the last accepted mark was a seen edge whose pulse has not ended (R7). -/
  markPulse : Bool
  /-- The pulse line is driven low until this moment (R2). -/
  driveUntil : Nat
  mode : LinkMode
  errors : ErrorSet
  disturbs : List Disturb
  /-- The notice queue: at most one notice for each cause (R147). -/
  notices : CauseSet
  collisionRun : Nat
  /-- The slot being timed; none in frame 0 and after slot 15 (R5, R8). -/
  slot : Option StationId
  reception : Reception
  /-- The own message under transmission; transmit enable is asserted exactly while there is one (R16). -/
  flight : Option Flight
  /-- Whether the controller has begun a message in this frame (R16, R19). -/
  begun : Bool
  /-- Whether this frame's transmission met a collision (R19). -/
  collided : Bool
deriving DecidableEq, Repr

/-! ## Peer view (R25) -/

/-- The board power states (R45). -/
inductive PowerState where
  | off | asking | rising | on | falling | tripped
deriving DecidableEq, Repr

/-- The job states (R156). -/
inductive JobState where
  | empty | ready | powering | running | paused | cycling | recovering | closing | concluded | aborted
deriving DecidableEq, Repr

/-- A peer record (R26). -/
structure Peer where
  present : Bool
  silent : Nat
  power : PowerState
  job : Option JobState
  window : Nat
  budget : Option Nat
deriving DecidableEq, Repr

/-- An entry of the rise roster (R34). -/
structure RosterEntry where
  bay : StationId
  start : Frame
  finish : Frame
  phantom : Bool
deriving DecidableEq, Repr

/-- A frame entry of the coincidence ring (R31). -/
structure RingEntry where
  disturbed : BaySet
  rising : BaySet
deriving DecidableEq, Repr

/-- The frame note of one slot (R25, R30, R36). -/
inductive SlotNote where
  | quiet
  | ask (window : Nat)
  | blind
deriving DecidableEq, Repr

/-- The peer view (R25). Place b of `peers` is bay b's record; places 0 and own hold no record and are never
reported. -/
structure PeerView where
  peers : Vector Peer 16
  /-- The effective budget. -/
  budget : Nat
  roster : List RosterEntry
  /-- The five ring entries, newest first: place k is frame n − k. -/
  ring : List RingEntry
  listening : Nat
  /-- The frame notes of the current frame, by slot. -/
  notes : Vector SlotNote 16
deriving DecidableEq, Repr

/-! ## Board power sequencer and monitor (R45) -/

/-- A rail window (R46). -/
structure RailWindow where
  low : Nat
  high : Nat
deriving DecidableEq, Repr

/-- The monitor's settings in force (R46). The job record's copies of them (R157) are these: the two copies agree
at every moment. -/
structure MonitorSettings where
  windows : Vector RailWindow 4
  inrush : Nat
  run : Nat
  warmAt : Int
  hotAt : Int
  riseWindow : Nat
deriving DecidableEq, Repr

/-- The thermal bands. -/
inductive Band where
  | cold | warm | hot
deriving DecidableEq, Repr

/-- What the monitor keeps for one rail (R45). -/
structure Rail where
  sample : Nat
  fullScale : Bool
  run : Nat
  /-- The frame of the first sample of the run. -/
  first : Option Frame
  excursion : Bool
deriving DecidableEq, Repr

/-- The board power sequencer and monitor (R45). -/
structure Power where
  state : PowerState
  switchClosed : Bool
  pendingRequest : Bool
  riseEnd : Option Frame
  fallCount : Nat
  rails : Vector Rail 4
  current : Nat
  currentFull : Bool
  currentRun : Nat
  temperature : Option Int
  band : Band
  settings : MonitorSettings
deriving DecidableEq, Repr

/-! ## Stimulus and capture lanes (R84, R100) -/

/-- The lane states (R84). -/
inductive LaneState where
  | idle | playing | finishing | held | stopped | faulted
deriving DecidableEq, Repr

/-- The states a HELD lane returns to (R84). -/
inductive ResumeState where
  | playing | finishing
deriving DecidableEq, Repr

/-- The code fault kinds (R83). -/
inductive FaultKind where
  | undefinedCode | loop | stepless | bounds
deriving DecidableEq, Repr

/-- The step timer (R84, R88): running towards the moment of its expiry, frozen with the time it had left, or
stopped. -/
inductive StepTimer where
  | stopped
  | running (due : Nat)
  | frozen (left : Nat)
deriving DecidableEq, Repr

/-- An entry of a loop stack (R73). -/
structure LoopEntry where
  returnTo : Nat
  remaining : Nat
deriving DecidableEq, Repr

/-- A stimulus lane (R84). The top entry of the loop stack is its first. -/
structure Lane where
  state : LaneState
  resume : Option ResumeState
  position : Nat
  stack : List LoopEntry
  holdLeft : Nat
  vector : Byte
  period : Nat
  timer : StepTimer
  park : Byte
  note : Option Byte
  fault : Option FaultKind
deriving DecidableEq, Repr

/-- The last result of a capture lane (R100). -/
inductive CaptureResult where
  | none | pass | fail
deriving DecidableEq, Repr

/-- A capture lane (R100). The window is open exactly when it has a tag. -/
structure Capture where
  sample : Byte
  window : Option Byte
  signature : Word
  count : Nat
  result : CaptureResult
  everFailed : Bool
deriving DecidableEq, Repr

/-! ## Attribution engine (R114) -/

/-- What a failure is attributed to (R115); the locus includes the kind of the event. -/
inductive Locus where
  | strobe (lane : LaneId) (pin : Fin 8) (tag : Byte)
  | signature (lane : LaneId) (tag : Byte)
  | glitch (rail : RailId)
  | trip (rail : RailId)
deriving DecidableEq, Repr

/-- A settling-queue entry (R116). -/
structure Entry where
  locus : Locus
  stamp : Frame
  occurrences : Nat
  band : Band
  snapshot : Option (Fin 8)
deriving DecidableEq, Repr

/-- A suspect record (R115). -/
structure SuspectRecord where
  serial : Nat
  locus : Locus
  firstStamp : Frame
  lastStamp : Frame
  lastCount : Nat
  score : Nat
  hits : Nat
  opportunities : Nat
  cold : Nat
  warm : Nat
  hot : Nat
  latch : Bool
  pinned : Bool
  snapshot : Option (Fin 8)
deriving DecidableEq, Repr

/-- The conditions a snapshot holds (R135). -/
structure Conditions where
  stamp : Frame
  rails : Vector Nat 4
  current : Nat
  temperature : Int
  positions : Vector Nat 4
deriving DecidableEq, Repr

/-- A snapshot of the pool (R134). -/
inductive Snapshot where
  | free
  | linked (c : Conditions)
  | attached (c : Conditions)
deriving DecidableEq, Repr

/-- A burst tally (R111). -/
structure Tally where
  loci : List Locus
  requested : Bool
deriving DecidableEq, Repr

/-- The attribution engine (R114) with its header counters (R136); the header's record count is the length of the
table. -/
structure Engine where
  queue : List Entry
  table : List SuspectRecord
  pool : Vector Snapshot 8
  nextSerial : Nat
  rackEvents : Nat
  overflows : Nat
  earlySettles : Nat
  evictions : Nat
  /-- The tally of the current frame. -/
  tallyNow : Tally
  /-- The tally of the frame before. -/
  tallyBefore : Tally
deriving DecidableEq, Repr

/-! ## Cause unit (R144) -/

/-- The fifteen causes, in the order of their numbers (R145). -/
inductive Cause where
  | railGlitch | railTrip | riseFail | codeFault | windowMisuse | streamNote | tableOverflow | earlySettle
  | newConfirmed | rackEvent | sensorRange | strapMismatch | duplicateBay | cadenceFault | jobEnded
deriving DecidableEq, Repr

/-- A cause record (R144). -/
structure CauseRecord where
  flag : Bool
  count : Nat
  notified : Bool
  level : Nat
deriving DecidableEq, Repr

/-- The cause unit (R144): place i is cause i + 1. The levels and the floor are those in force, and the job
record's copies of them (R157) are these. -/
structure CauseUnit where
  records : Vector CauseRecord 15
  floor : Nat
deriving DecidableEq, Repr

/-! ## Job controller (R156) -/

/-- The verdicts (R156). -/
inductive Verdict where
  | none | pass | marginal | inconclusive | incomplete | fail
deriving DecidableEq, Repr

/-- The closing reasons (R156). -/
inductive ClosingReason where
  | target | aborted | exhausted
deriving DecidableEq, Repr

/-- The phases of CYCLING and RECOVERING (R156). -/
inductive Phase where
  | awaitingOff | dwelling | awaitingOn
deriving DecidableEq, Repr

/-- Settings named by JOB-RAILS, JOB-LIMITS or JOB-CAUSES, each present or absent (R157): a command's settings, or
the staged set (R160). -/
structure NamedSettings where
  windows : Vector (Option RailWindow) 4
  inrush : Option Nat
  run : Option Nat
  warmAt : Option Int
  hotAt : Option Int
  rackLimit : Option Nat
  period : Option Nat
  offDwell : Option Nat
  floor : Option Nat
  levels : Vector (Option Nat) 15
deriving DecidableEq, Repr

/-- The job controller (R156) and the job record (R157), but for the settings that the monitor and the cause unit
hold in force. -/
structure Job where
  state : JobState
  jobSet : Bool
  starts : Vector Nat 4
  /-- The lane enable mask; none until a JOB-LANES is accepted (R157). -/
  mask : Option (BitVec 4)
  /-- The cycle target; none until a JOB-LANES is accepted (R157). -/
  target : Option Nat
  retries : Nat
  rackLimit : Nat
  period : Nat
  offDwell : Nat
  staged : NamedSettings
  cycles : Nat
  retriesUsed : Nat
  rackEvents : Nat
  verdict : Verdict
  closing : Option ClosingReason
  finishDue : Bool
  phase : Option Phase
  dwell : Option Nat
deriving DecidableEq, Repr

/-! ## Bench command handler (R179) -/

/-- The reasons of a reply (R182). -/
inductive Reason where
  | accepted | clamped | busy | range | state | unknown
deriving DecidableEq, Repr

/-- A queued reply (R182). Its length is 6 bytes and its data. -/
structure Reply where
  kind : Byte
  seq : Byte
  reason : Reason
  more : Bool
  data : List Byte
deriving DecidableEq, Repr

/-- The bench command handler (R179). -/
structure Bench where
  replies : List Reply
  limit : Nat
deriving DecidableEq, Repr

/-! ## The whole block -/

/-- The B340 without its queue of waiting commands. -/
structure Device where
  link : Link
  view : PeerView
  power : Power
  /-- Pattern memory (R66): the nonzero words by rising address; an unlisted word reads 0x0000. -/
  pattern : List (Nat × Word)
  lanes : Vector Lane 4
  captures : Vector Capture 4
  /-- The levels last presented at the capture pins (R101). -/
  pins : CapturePins
  engine : Engine
  causes : CauseUnit
  job : Job
  bench : Bench
  /-- The moment of the latest event, in clock periods since cold start. -/
  now : Nat
deriving DecidableEq, Repr

/-- The machine: the block, and the commands that wait, first in first out. -/
structure State extends Device where
  pending : List Instr
deriving DecidableEq, Repr

/-! ## After cold start -/

/-- R1, R5, R9. -/
def Link.cold (bay : BitVec 4) (budget : BitVec 2) : Link :=
  { bay := bay, budgetStrap := budget, frame := 0, cadenceDue := Config.firstPeriod, previousMark := none,
    markPulse := false, driveUntil := 0, mode := if bay = 0 then .listenOnly else .normal, errors := 0,
    disturbs := [], notices := 0, collisionRun := 0, slot := none, reception := .idle, flight := none,
    begun := false, collided := false }

/-- A peer record after cold start and on becoming ABSENT (R26). -/
def Peer.absent : Peer :=
  { present := false, silent := Config.silentLimit, power := .off, job := none, window := 64, budget := none }

/-- A ring entry with both sets empty (R31). -/
def RingEntry.empty : RingEntry := ⟨0, 0⟩

/-- R25. -/
def PeerView.cold (budget : BitVec 2) : PeerView :=
  { peers := Vector.replicate 16 Peer.absent, budget := budget.toNat + 1, roster := [],
    ring := List.replicate 5 RingEntry.empty, listening := Config.listening,
    notes := Vector.replicate 16 .quiet }

/-- R45, R46. -/
def Power.cold : Power :=
  { state := .off, switchClosed := false, pendingRequest := false, riseEnd := none, fallCount := 0,
    rails := Vector.replicate 4 ⟨0, false, 0, none, false⟩, current := 0, currentFull := false, currentRun := 0,
    temperature := none, band := .cold,
    settings := { windows := Vector.replicate 4 ⟨0, Config.fullScale⟩, inrush := Config.fullScale,
                  run := Config.fullScale, warmAt := 110, hotAt := 150, riseWindow := 64 } }

/-- R84. -/
def Lane.cold : Lane :=
  { state := .idle, resume := none, position := 0, stack := [], holdLeft := 0, vector := 0, period := 100,
    timer := .stopped, park := 0, note := none, fault := none }

/-- R100. -/
def Capture.cold : Capture :=
  { sample := 0, window := none, signature := 0xFFFF, count := 0, result := .none, everFailed := false }

/-- A tally with no locus and its requested mark clear (R111). -/
def Tally.empty : Tally := ⟨[], false⟩

/-- R114, R136. -/
def Engine.cold : Engine :=
  { queue := [], table := [], pool := Vector.replicate 8 .free, nextSerial := 1, rackEvents := 0, overflows := 0,
    earlySettles := 0, evictions := 0, tallyNow := Tally.empty, tallyBefore := Tally.empty }

/-- R144, R145. -/
def CauseUnit.cold : CauseUnit :=
  { records := Vector.ofFn fun i => ⟨false, 0, false, Config.defaultLevels[i]⟩, floor := 1 }

/-- The staged set with every setting absent (R156). -/
def NamedSettings.none : NamedSettings :=
  { windows := Vector.replicate 4 Option.none, inrush := Option.none, run := Option.none, warmAt := Option.none,
    hotAt := Option.none, rackLimit := Option.none, period := Option.none, offDwell := Option.none,
    floor := Option.none, levels := Vector.replicate 15 Option.none }

/-- R156, R157. -/
def Job.cold : Job :=
  { state := .empty, jobSet := false, starts := Vector.replicate 4 0, mask := none, target := none, retries := 0,
    rackLimit := 65535, period := 0, offDwell := 8, staged := NamedSettings.none, cycles := 0, retriesUsed := 0,
    rackEvents := 0, verdict := .none, closing := none, finishDue := false, phase := none, dwell := none }

/-- R179. -/
def Bench.cold : Bench := { replies := [], limit := Config.replyLimit }

/-- The block after a cold start with these straps. The capture pins read 0 until an event presents them, as the
capture lanes' latest samples do (R100). -/
def Device.cold (bay : BitVec 4) (budget : BitVec 2) : Device :=
  { link := Link.cold bay budget, view := PeerView.cold budget, power := Power.cold, pattern := [],
    lanes := Vector.replicate 4 Lane.cold, captures := Vector.replicate 4 Capture.cold,
    pins := Vector.replicate 4 0, engine := Engine.cold, causes := CauseUnit.cold, job := Job.cold,
    bench := Bench.cold, now := 0 }

/-- The bay strap at `State.reset`: bay 6, the bay of the manual's worked sequences. DESIGN CHOICE, log entry 1. -/
def resetBay : BitVec 4 := 6

/-- The budget strap at `State.reset`: 1, a strap budget of 2, as in the worked sequence of the chapter Peer View
and the Rise Roster. DESIGN CHOICE, log entry 1. -/
def resetBudget : BitVec 2 := 1

/-- The machine right after cold start, with no command waiting. -/
def State.reset : State := { Device.cold resetBay resetBudget with pending := [] }

end Sys2Proof.Machine
end

