-- ==== Sys2Proof/Decode.lean ====
section
/-! DEFINITION. The decoder of spec/opcode_table.json's words. The table gives no row any bits: its rows are
events and command items, and the bytes of a command item are laid out in the Formats chapter instead (R196, R198,
read by Sys2Proof/Machine/Operands.lean). So no word of the table spells a command. -/

namespace Sys2Proof

/-- The command that the low `nbits` bits of `w` spell by spec/opcode_table.json: none, for every word. -/
def decodeTableWord (_nbits _w : Nat) : Option Instr := none

end Sys2Proof
end

