-- ==== Sys2Proof/Machine/Ops.lean ====
section
/-! DEFINITION. The named operations the blocks share: frame arithmetic (R1), access to lanes, rails and peers,
pattern memory (R66), and the codes and sets that more than one block reads. -/

namespace Sys2Proof.Machine

/-! ## Frame numbers (R1) -/

/-- How many frames g is before f, modulo 2^32. -/
def frameAge (f g : Frame) : Nat := (f - g).toNat

/-- f is earlier than n: (n − f) modulo 2^32 lies between 1 and 2^31 − 1 (R1). -/
def frameEarlier (f n : Frame) : Bool := decide (1 ≤ frameAge n f ∧ frameAge n f ≤ 2147483647)

/-- f is n or earlier than n. -/
def frameUpTo (f n : Frame) : Bool := decide (f = n) || frameEarlier f n

/-! ## The machine and its block -/

/-- A command whose whole effect is a change of the block: the queue stands. -/
def onDevice (f : Device → Device) (s : State) : Host.Outcome State Fault Refusal :=
  .next { s with toDevice := f s.toDevice }

/-- Time passes to a moment; it does not run back. -/
def atMoment (moment : Nat) (d : Device) : Device := { d with now := max d.now moment }

/-! ## Lanes -/

/-- The stimulus lane i. -/
def lane (d : Device) (i : LaneId) : Lane := d.lanes[i]

/-- Replaces the stimulus lane i. -/
def setLane (i : LaneId) (l : Lane) (d : Device) : Device := { d with lanes := d.lanes.set i l }

/-- The capture lane i. -/
def capture (d : Device) (i : LaneId) : Capture := d.captures[i]

/-- Replaces the capture lane i. -/
def setCapture (i : LaneId) (c : Capture) (d : Device) : Device := { d with captures := d.captures.set i c }

/-- A lane that is PLAYING or FINISHING (R22, R95). -/
def LaneState.going : LaneState → Bool
  | .playing | .finishing => true
  | _ => false

/-- A lane that reads pattern memory now or when resumed: PLAYING, FINISHING or HELD (R67). -/
def LaneState.reading : LaneState → Bool
  | .playing | .finishing | .held => true
  | _ => false

/-- A lane that has ended: IDLE, STOPPED or FAULTED (R172). -/
def LaneState.ended : LaneState → Bool
  | .idle | .stopped | .faulted => true
  | _ => false

/-- The four lanes, in lane order. -/
def allLanes : List LaneId := List.finRange 4

/-- Whether the job's enable mask names lane i (R86, R96). -/
def enabled (d : Device) (i : LaneId) : Bool :=
  match d.job.mask with
  | some m => m.getLsbD i.val
  | none => false

/-- The lead lane: the lowest-numbered lane of the enable mask; none while the job is EMPTY (R96). -/
def leadLane (d : Device) : Option LaneId := if d.job.state = .empty then none else allLanes.find? (enabled d)

/-- The mask of lanes that are PLAYING or FINISHING, bit i for lane i (R22, R196). -/
def lanesPlaying (d : Device) : Nat :=
  allLanes.foldl (fun n i => n + if (lane d i).state.going then 2 ^ i.val else 0) 0

/-- The output gate of lane i (R95). -/
def gateOpen (d : Device) (i : LaneId) : Bool :=
  decide (d.power.state = .on) && (lane d i).state.going

/-- What lane i's eight stimulus pins show (R95). -/
def stimulusPins (d : Device) (i : LaneId) : Byte :=
  if gateOpen d i then (lane d i).vector else (lane d i).park

/-! ## Pattern memory (R66) -/

/-- The word at an address; a word that is not listed reads 0x0000, as after cold start (R66). -/
def patternRead : List (Nat × Word) → Nat → Word
  | [], _ => 0
  | (b, v) :: rest, a => if b = a then v else patternRead rest a

/-- Writes a word, keeping the addresses rising and no word of 0x0000 listed. -/
def patternWrite (a : Nat) (w : Word) : List (Nat × Word) → List (Nat × Word)
  | [] => if w = 0 then [] else [(a, w)]
  | (b, v) :: rest =>
    if a < b then (if w = 0 then (b, v) :: rest else (a, w) :: (b, v) :: rest)
    else if a = b then (if w = 0 then rest else (a, w) :: rest)
    else (b, v) :: patternWrite a w rest

/-- Writes words to consecutive addresses, in order (R67). -/
def patternWriteAll : Nat → List Word → List (Nat × Word) → List (Nat × Word)
  | _, [], m => m
  | a, w :: ws, m => patternWriteAll (a + 1) ws (patternWrite a w m)

/-- The canonical form above a bound: addresses rising from `low`, below the end of memory, and no word of 0x0000
listed. -/
def patternWfFrom (low : Nat) : List (Nat × Word) → Bool
  | [] => true
  | (a, w) :: rest =>
    decide (low ≤ a ∧ a < Config.patternWords ∧ w ≠ 0) && patternWfFrom (a + 1) rest

/-- The canonical form of pattern memory. -/
def patternWf (m : List (Nat × Word)) : Bool := patternWfFrom 0 m

/-! ## Board power -/

/-- The power states in which the bay switch is closed (R47). -/
def PowerState.closed : PowerState → Bool
  | .rising | .on => true
  | _ => false

/-- A value inside a rail window: at least the low and at most the high (R46). -/
def insideWindow (w : RailWindow) (v : Nat) : Bool := decide (w.low ≤ v ∧ v ≤ w.high)

/-! ## The job -/

/-- The active job states (R156). -/
def JobState.active : JobState → Bool
  | .powering | .running | .paused | .cycling | .recovering | .closing => true
  | _ => false

/-- The job states in which settings are staged (R160). -/
def JobState.staging : JobState → Bool
  | .running | .paused | .cycling | .recovering => true
  | _ => false

/-! ## Sets of bays -/

/-- How many bays a set holds. -/
def bayCount (b : BaySet) : Nat := (List.range 16).countP b.getLsbD

/-- The set of one bay. -/
def baySingle (b : StationId) : BaySet := 1#16 <<< b.val

/-- The own slot: none for a bay strapped 0 (R9). -/
def ownSlot (d : Device) : Option StationId :=
  if d.link.bay = 0 then none else some d.link.bay.toFin

/-- The strap budget (R9). -/
def strapBudget (d : Device) : Nat := d.link.budgetStrap.toNat + 1

end Sys2Proof.Machine
end

