-- ==== Sys2Proof/Machine/Flags.lean ====
section
/-! DEFINITION. The error summary (R20), the causes and the notices they offer (R144 to R149), and the DISTURB
requests (R23, R24). -/

namespace Sys2Proof.Machine

/-! ## The error summary (R20) -/

/-- The bit of an error kind (R196). -/
def ErrorKind.bit : ErrorKind → Nat
  | .hdrCorrected => 0
  | .hdrUncorrectable => 1
  | .checksum => 2
  | .truncated => 3
  | .slotMismatch => 4
  | .overlong => 5
  | .unknownItem => 6
  | .earlyMark => 7
  | .collision => 8
  | .replyOverflow => 9

/-- The set of one error kind. -/
def ErrorKind.single (k : ErrorKind) : ErrorSet := 1#16 <<< k.bit

/-- Adds a kind to the error summary; a kind already present leaves it as it is (R20). -/
def addError (k : ErrorKind) (d : Device) : Device :=
  { d with link := { d.link with errors := d.link.errors ||| k.single } }

/-! ## Causes (R144 to R149) -/

/-- The place of a cause among the records: its number less 1 (R145). -/
def Cause.index : Cause → Fin 15
  | .railGlitch => 0
  | .railTrip => 1
  | .riseFail => 2
  | .codeFault => 3
  | .windowMisuse => 4
  | .streamNote => 5
  | .tableOverflow => 6
  | .earlySettle => 7
  | .newConfirmed => 8
  | .rackEvent => 9
  | .sensorRange => 10
  | .strapMismatch => 11
  | .duplicateBay => 12
  | .cadenceFault => 13
  | .jobEnded => 14

/-- The fifteen places of the cause records, in cause order. -/
def allCauses : List (Fin 15) := List.finRange 15

/-- The set of the cause at a place: bit k for cause k (R193). -/
def causeSingle (i : Fin 15) : CauseSet := 1#16 <<< (i.val + 1)

/-- The notice test (R147). -/
def noticeTest (floor : Nat) (r : CauseRecord) : Bool :=
  r.flag && !r.notified && decide (1 ≤ r.level ∧ floor ≤ r.level)

/-- The notice test of the cause at a place, as the cause unit stands. -/
def passesTest (u : CauseUnit) (i : Fin 15) : Bool := noticeTest u.floor u.records[i]

/-- The causes whose notice test passes. -/
def passing (u : CauseUnit) : CauseSet :=
  allCauses.foldl (fun m i => if passesTest u i then m ||| causeSingle i else m) 0

/-- Offers notices to the link controller's queue: discarded in LISTEN-ONLY, and a cause already queued leaves the
queue as it stands (R24, R147, R149). -/
def offer (m : CauseSet) (d : Device) : Device :=
  if d.link.mode = .listenOnly then d
  else { d with link := { d.link with notices := d.link.notices ||| m } }

/-- Offers a notice of every cause whose test passes (R148). -/
def offerAll (d : Device) : Device := offer (passing d.causes) d

/-- The record of a cause after an occurrence (R146). -/
def occur (r : CauseRecord) : CauseRecord :=
  if r.flag then { r with count := min 255 (r.count + 1) }
  else { r with flag := true, count := 1, notified := false }

/-- An occurrence of a cause (R146): the record changes, and an occurrence that found the flag clear offers a
notice where the test passes (R147, R148). -/
def raiseCause (c : Cause) (d : Device) : Device :=
  let before := d.causes.records[c.index]
  let d1 := { d with causes := { d.causes with records := d.causes.records.set c.index (occur before) } }
  if !before.flag && passesTest d1.causes c.index then offer (causeSingle c.index) d1 else d1

/-! ## DISTURB requests (R23, R24) -/

/-- The sources of a DISTURB (R23). -/
inductive Source where
  | rail | burst
deriving DecidableEq, Repr

/-- An entry with a source added. -/
def Disturb.add (src : Source) (e : Disturb) : Disturb :=
  match src with
  | .rail => { e with rail := true }
  | .burst => { e with burst := true }

/-- The queue after a request for frame f, where n is the current frame (R23): a request earlier than n − 1 is
discarded, one for a queued frame adds its source, and another makes an entry, the older frame's standing first. -/
def disturbRequest (n f : Frame) (src : Source) (q : List Disturb) : List Disturb :=
  if f ≠ n ∧ f ≠ n - 1 then q
  else if q.any (fun e => e.frame == f) then q.map (fun e => if e.frame = f then e.add src else e)
  else
    let e := Disturb.add src ⟨f, false, false⟩
    if f = n then q ++ [e] else e :: q

/-- A request to the DISTURB queue, discarded on arrival in LISTEN-ONLY (R23, R24). -/
def requestDisturb (f : Frame) (src : Source) (d : Device) : Device :=
  if d.link.mode = .listenOnly then d
  else { d with link := { d.link with disturbs := disturbRequest d.link.frame f src d.link.disturbs } }

end Sys2Proof.Machine
end

