-- ==== Sys2Proof/Machine/Attribution.lean ====
section
/-! DEFINITION. The attribution engine: the coincidence count (R41), the settling queue (R116 to R120), the settle
(R121 to R128), opportunities (R129), decay (R132), pinning (R133), the snapshot pool (R134, R135), the burst
tallies (R111, R112) and the table clear (R137). -/

namespace Sys2Proof.Machine

/-! ## The coincidence count (R41) -/

/-- The ring entry of frame f, where n is the current frame: both sets empty for a frame the ring does not hold,
whether past or not yet begun (R41). -/
def ringAt (ring : List RingEntry) (n f : Frame) : RingEntry := ring.getD (frameAge n f) RingEntry.empty

/-- The peers disturbed or rising in a ring entry. -/
def RingEntry.bays (e : RingEntry) : BaySet := e.disturbed ||| e.rising

/-- The distinct peers disturbed or rising in the frames f − 1, f and f + 1 (R41). -/
def coincidentBays (ring : List RingEntry) (n f : Frame) : BaySet :=
  (ringAt ring n (f - 1)).bays ||| (ringAt ring n f).bays ||| (ringAt ring n (f + 1)).bays

/-- The coincidence count of a stamp (R41). -/
def coincidence (d : Device) (f : Frame) : Nat := bayCount (coincidentBays d.view.ring d.link.frame f)

/-! ## Weights (R115, R121, R122) -/

/-- The base weight B of a locus's kind (R115). -/
def baseWeight : Locus → Nat
  | .strobe _ _ _ => 64
  | .signature _ _ => 48
  | .glitch _ => 40
  | .trip _ => 512

/-- The discount D of a coincidence count (R121). -/
def discount : Nat → Nat
  | 0 => 8
  | 1 => 4
  | 2 => 2
  | _ => 0

/-- The score increment I = floor(B × D / 8) (R122). -/
def increment (l : Locus) (c : Nat) : Nat := baseWeight l * discount c / 8

/-! ## Records (R123, R126 to R128, R131, R132) -/

/-- Halves a record's counters where an addition would carry the opportunities past 65,535 (R126). -/
def halveFor (amount : Nat) (r : SuspectRecord) : SuspectRecord :=
  if Config.counterLimit < r.opportunities + amount then
    { r with opportunities := r.opportunities / 2, hits := r.hits / 2, cold := r.cold / 2, warm := r.warm / 2,
             hot := r.hot / 2 }
  else r

/-- Adds occurrences to the count of a band, which stops at 255 (R127). -/
def addBand (b : Band) (k : Nat) (r : SuspectRecord) : SuspectRecord :=
  match b with
  | .cold => { r with cold := min 255 (r.cold + k) }
  | .warm => { r with warm := min 255 (r.warm + k) }
  | .hot => { r with hot := min 255 (r.hot + k) }

/-- Scores an entry with coincidence count c into a record (R126 to R128). -/
def scoreEntry (e : Entry) (c : Nat) (r : SuspectRecord) : SuspectRecord :=
  let r1 := addBand e.band e.occurrences (halveFor e.occurrences r)
  let score := min Config.counterLimit (r.score + increment e.locus c)
  { r1 with opportunities := r1.opportunities + e.occurrences, hits := r1.hits + e.occurrences, score := score,
            lastStamp := e.stamp, lastCount := c, latch := r.latch || decide (Config.latchScore ≤ score) }

/-- A record as it is created, before it is scored (R123). -/
def newRecord (serial : Nat) (e : Entry) : SuspectRecord :=
  { serial := serial, locus := e.locus, firstStamp := e.stamp, lastStamp := e.stamp, lastCount := 0, score := 0,
    hits := 0, opportunities := 0, cold := 0, warm := 0, hot := 0, latch := false, pinned := false,
    snapshot := e.snapshot }

/-- A pass credited to a record (R129). -/
def creditRecord (r : SuspectRecord) : SuspectRecord :=
  let r1 := halveFor 1 r
  { r1 with opportunities := r1.opportunities + 1 }

/-- A record's score after one decay (R132). -/
def decayRecord (r : SuspectRecord) : SuspectRecord := { r with score := r.score - r.score / 64 }

/-- A record that may be evicted (R124). -/
def evictable (r : SuspectRecord) : Bool :=
  !r.pinned && !r.latch && decide (r.score < Config.suspectScore)

/-- The better of two records to evict: the lower score, and of equal scores the lower serial (R124). -/
def weaker (a b : SuspectRecord) : SuspectRecord :=
  if b.score < a.score ∨ (b.score = a.score ∧ b.serial < a.serial) then b else a

/-- The record that R124 evicts, if there is one. -/
def evictionChoice (table : List SuspectRecord) : Option SuspectRecord :=
  match table.filter evictable with
  | [] => none
  | r :: rs => some (rs.foldl weaker r)

/-- The classes of R131. -/
inductive RecordClass where
  | noted | suspect | confirmed
deriving DecidableEq, Repr

/-- The class of a record (R131). -/
def recordClass (r : SuspectRecord) : RecordClass :=
  if r.latch then .confirmed else if Config.suspectScore ≤ r.score then .suspect else .noted

/-- Whether a record's shape is SOLID; otherwise it is INTERMITTENT (R131). -/
def solid (r : SuspectRecord) : Bool := decide (15 * r.opportunities ≤ 16 * r.hits)

/-- Whether the table holds a record of a locus. -/
def hasRecord (table : List SuspectRecord) (l : Locus) : Bool := table.any fun r => decide (r.locus = l)

/-- The table with the record of a locus changed. -/
def mapRecord (l : Locus) (f : SuspectRecord → SuspectRecord) (table : List SuspectRecord) : List SuspectRecord :=
  table.map fun r => if r.locus = l then f r else r

/-! ## Snapshots (R134, R135) -/

/-- The pool with a snapshot returned to it. -/
def freeSnapshot (k : Option (Fin 8)) (pool : Vector Snapshot 8) : Vector Snapshot 8 :=
  match k with
  | some k => pool.set k .free
  | none => pool

/-- A linked snapshot attached to a record (R123). -/
def attachSnapshot (k : Option (Fin 8)) (pool : Vector Snapshot 8) : Vector Snapshot 8 :=
  match k with
  | some k =>
    match pool[k] with
    | .linked c => pool.set k (.attached c)
    | _ => pool
  | none => pool

/-- The free snapshot of lowest number (R118). -/
def lowestFree (pool : Vector Snapshot 8) : Option (Fin 8) :=
  (List.finRange 8).find? fun k => decide (pool[k] = .free)

/-- The conditions as they stand (R135). -/
def conditionsNow (stamp : Frame) (d : Device) : Conditions :=
  { stamp := stamp, rails := Vector.ofFn fun r => d.power.rails[r].sample, current := d.power.current,
    temperature := d.power.temperature.getD (-80), positions := Vector.ofFn fun i => (lane d i).position }

/-- The pool with every linked snapshot freed (R114, R134: a warm restart empties the queue). -/
def freeLinked (pool : Vector Snapshot 8) : Vector Snapshot 8 :=
  Vector.ofFn fun k =>
    match pool[k] with
    | .linked _ => Snapshot.free
    | s => s

/-! ## The settle (R121 to R128) -/

/-- Replaces the engine. -/
def setEngine (e : Engine) (d : Device) : Device := { d with engine := e }

/-- A rack event: counted in the header and, in an active job, by the job; no record is touched (R121, R175). -/
def rackEvent (e : Entry) (d : Device) : Device :=
  let d1 := setEngine { d.engine with rackEvents := min Config.counterLimit (d.engine.rackEvents + 1),
                                      pool := freeSnapshot e.snapshot d.engine.pool } d
  let d2 :=
    if d1.job.state.active then
      { d1 with job := { d1.job with rackEvents := min Config.counterLimit (d1.job.rackEvents + 1) } }
    else d1
  raiseCause .rackEvent d2

/-- The settle into an existing record: its linked snapshot is freed (R123, R126 to R128). -/
def settleFound (e : Entry) (c : Nat) (d : Device) : Device :=
  let latches := d.engine.table.any fun r => decide (r.locus = e.locus) && !r.latch && (scoreEntry e c r).latch
  let d1 := setEngine { d.engine with table := mapRecord e.locus (scoreEntry e c) d.engine.table,
                                      pool := freeSnapshot e.snapshot d.engine.pool } d
  if latches then raiseCause .newConfirmed d1 else d1

/-- The settle that creates a record at the end of the table (R123, R126 to R128). -/
def settleNew (e : Entry) (c : Nat) (d : Device) : Device :=
  let r := scoreEntry e c (newRecord d.engine.nextSerial e)
  let d1 := setEngine { d.engine with table := d.engine.table ++ [r], nextSerial := d.engine.nextSerial + 1,
                                      pool := attachSnapshot e.snapshot d.engine.pool } d
  if r.latch then raiseCause .newConfirmed d1 else d1

/-- Evicts a record (R124). -/
def evict (r : SuspectRecord) (d : Device) : Device :=
  setEngine { d.engine with table := d.engine.table.eraseP fun x => decide (x.serial = r.serial),
                            pool := freeSnapshot r.snapshot d.engine.pool,
                            evictions := d.engine.evictions + 1 } d

/-- Drops an entry that finds no room (R125). -/
def dropEntry (e : Entry) (d : Device) : Device :=
  raiseCause .tableOverflow
    (setEngine { d.engine with overflows := d.engine.overflows + 1,
                               pool := freeSnapshot e.snapshot d.engine.pool } d)

/-- Settles an entry that has left the queue (R121 to R128). -/
def settle (e : Entry) (d : Device) : Device :=
  let c := coincidence d e.stamp
  if 3 ≤ c then rackEvent e d
  else if hasRecord d.engine.table e.locus then settleFound e c d
  else if d.engine.table.length < Config.tableLimit then settleNew e c d
  else
    match evictionChoice d.engine.table with
    | some r => settleNew e c (evict r d)
    | none => dropEntry e d

/-! ## The settling queue (R116 to R120) -/

/-- The head entry settled early, with its cause and its count (R117). -/
def earlySettle (d : Device) : Device :=
  match d.engine.queue with
  | [] => d
  | e :: rest =>
    let d1 := settle e (setEngine { d.engine with queue := rest } d)
    let d2 := raiseCause .earlySettle d1
    setEngine { d2.engine with earlySettles := d2.engine.earlySettles + 1 } d2

/-- A new entry's place: after the last entry that is not stamped later (R116). -/
def insertEntry (e : Entry) : List Entry → List Entry
  | [] => [e]
  | x :: rest => if frameEarlier e.stamp x.stamp then e :: x :: rest else x :: insertEntry e rest

/-- The queue entry of a locus and stamp. -/
def matchesEntry (l : Locus) (f : Frame) (e : Entry) : Bool := decide (e.locus = l ∧ e.stamp = f)

/-- The snapshot a new entry takes: the lowest free one, for a locus with neither record nor queued entry
(R118). -/
def snapshotFor (l : Locus) (g : Engine) : Option (Fin 8) :=
  if hasRecord g.table l || g.queue.any (fun e => decide (e.locus = l)) then none else lowestFree g.pool

/-- A new entry, in a queue that has room (R116, R118, R135). -/
def enqueue (l : Locus) (f : Frame) (d : Device) : Device :=
  let k := snapshotFor l d.engine
  let pool :=
    match k with
    | some k => d.engine.pool.set k (.linked (conditionsNow f d))
    | none => d.engine.pool
  setEngine { d.engine with queue := insertEntry ⟨l, f, 1, d.power.band, k⟩ d.engine.queue, pool := pool } d

/-- Merges an event into its entry, whose repeat count stays at 255 (R116). -/
def mergeEntry (l : Locus) (f : Frame) (q : List Entry) : List Entry :=
  q.map fun e => if matchesEntry l f e then { e with occurrences := min 255 (e.occurrences + 1) } else e

/-! ## Burst tallies (R111, R112) -/

/-- A tally with a locus added. -/
def Tally.add (l : Locus) (t : Tally) : Tally :=
  { t with loci := if t.loci.contains l then t.loci else t.loci ++ [l] }

/-- Whether a tally calls for a BURST request (R112). -/
def Tally.bursts (t : Tally) : Bool := decide (3 ≤ t.loci.length) && !t.requested

/-- Adds an event's locus to the tally of its stamp, and requests BURST once for a frame of three loci (R112). -/
def tallyEvent (l : Locus) (f : Frame) (d : Device) : Device :=
  if f = d.link.frame then
    let t := d.engine.tallyNow.add l
    let d1 := setEngine { d.engine with tallyNow := { t with requested := t.requested || t.bursts } } d
    if t.bursts then requestDisturb f .burst d1 else d1
  else if f = d.link.frame - 1 then
    let t := d.engine.tallyBefore.add l
    let d1 := setEngine { d.engine with tallyBefore := { t with requested := t.requested || t.bursts } } d
    if t.bursts then requestDisturb f .burst d1 else d1
  else d

/-- The tally shift at a mark (R111). -/
def tallyShift (d : Device) : Device :=
  setEngine { d.engine with tallyBefore := d.engine.tallyNow, tallyNow := Tally.empty } d

/-! ## Events, opportunities, decay and clears -/

/-- An event of a locus stamped f reaches the engine (R112, R116 to R118). -/
def takeEvent (l : Locus) (f : Frame) (d : Device) : Device :=
  let d1 :=
    if d.engine.queue.any (matchesEntry l f) then
      setEngine { d.engine with queue := mergeEntry l f d.engine.queue } d
    else if Config.queueLimit ≤ d.engine.queue.length then enqueue l f (earlySettle d)
    else enqueue l f d
  tallyEvent l f d1

/-- An opportunity for a locus: credited at once to its record, without effect where there is none (R103, R129). -/
def opportunity (l : Locus) (d : Device) : Device :=
  setEngine { d.engine with table := mapRecord l creditRecord d.engine.table } d

/-- The decay of the table (R132). -/
def decayTable (d : Device) : Device :=
  setEngine { d.engine with table := d.engine.table.map decayRecord } d

/-- Settles on time every entry stamped n − 3 or earlier, where n is the current frame (R119). -/
def settleDue (d : Device) : Device :=
  let due := fun e : Entry => frameUpTo e.stamp (d.link.frame - 3)
  let d1 := setEngine { d.engine with queue := d.engine.queue.filter fun e => !due e } d
  (d.engine.queue.filter due).foldl (fun x e => settle e x) d1

/-- A table clear (R137): the burst tallies are kept. R187 says that a clear of an empty table changes nothing, and
R137 that a clear removes the queue's entries and zeroes the counters: on a table without records but with entries or
nonzero counters the model follows R137 (DESIGN CHOICE, log entry 19). -/
def clearTable (d : Device) : Device :=
  setEngine { Engine.cold with tallyNow := d.engine.tallyNow, tallyBefore := d.engine.tallyBefore } d

/-- The engine across a warm restart (R111, R114). -/
def Engine.restarted (g : Engine) : Engine :=
  { g with queue := [], pool := freeLinked g.pool, tallyNow := Tally.empty, tallyBefore := Tally.empty }

/-- How many records are pinned (R133). -/
def pinnedCount (table : List SuspectRecord) : Nat := table.countP fun r => r.pinned

/-- How many snapshots are free (R143). -/
def freeCount (pool : Vector Snapshot 8) : Nat :=
  (List.finRange 8).countP fun k => decide (pool[k] = .free)

end Sys2Proof.Machine
end

