-- ==== Sys2Proof/Machine/Formats.lean ====
section
/-! DEFINITION. Bytes, their order and their bits on the message line (R193), the CRC-16 of R13 and R110, and the header's check byte (R10,
R194, R195). -/

namespace Sys2Proof.Machine

/-! ## Byte order (R193: high byte first; temperatures are two's complement) -/

/-- The low eight bits of a number, as a byte. -/
def byteOf (n : Nat) : Byte := BitVec.ofNat 8 n

/-- A two-byte field as sent. -/
def be16 (n : Nat) : List Byte := [byteOf (n / 256), byteOf n]

/-- A four-byte field as sent. -/
def be32 (n : Nat) : List Byte := [byteOf (n / 16777216), byteOf (n / 65536), byteOf (n / 256), byteOf n]

/-- A signed two-byte field as sent. -/
def be16Signed (z : Int) : List Byte := be16 (BitVec.ofInt 16 z).toNat

/-- The byte at a place of a layout; 0 beyond its end. -/
def byteAt (bs : List Byte) (k : Nat) : Byte := bs.getD k 0

/-- The number in the one-byte field at a place. -/
def nat8 (bs : List Byte) (k : Nat) : Nat := (byteAt bs k).toNat

/-- The number in the two-byte field at a place. -/
def nat16 (bs : List Byte) (k : Nat) : Nat := nat8 bs k * 256 + nat8 bs (k + 1)

/-- The number in the four-byte field at a place. -/
def nat32 (bs : List Byte) (k : Nat) : Nat := nat16 bs k * 65536 + nat16 bs (k + 2)

/-- The signed number in the two-byte field at a place. -/
def int16 (bs : List Byte) (k : Nat) : Int := (BitVec.ofNat 16 (nat16 bs k)).toInt

/-- A flag as bit k of a byte. -/
def bitIf (b : Bool) (k : Nat) : Byte := if b then 1#8 <<< k else 0

/-! ## On the line (R193: start bit, bits 0 to 7, stop bit; a level that is high is `true`) -/

/-- A byte as sent, one level for each of its ten bit-times (R193). PRESUMED: the start bit is low and a data bit of 1
is high (log entry 20); a stop bit is high, since one that reads low is an error (R12). -/
def byteLevels (b : Byte) : List Bool :=
  [false, b.getLsbD 0, b.getLsbD 1, b.getLsbD 2, b.getLsbD 3, b.getLsbD 4, b.getLsbD 5, b.getLsbD 6, b.getLsbD 7, true]

/-- Some bytes as sent, one after the other (R193). -/
def lineLevels (bs : List Byte) : List Bool := bs.flatMap byteLevels

/-- The place of the first bit whose level, read back, differs from the bit driven, in the order sent (R17, R193). -/
def firstDifference : List Bool → List Bool → Option Nat
  | driven :: ds, read :: rs => if driven = read then (firstDifference ds rs).map (· + 1) else some 0
  | _, _ => none

/-! ## CRC-16 (R13, R110) -/

/-- One shift step (R110). -/
def crcShift (c : Word) : Word := if c.msb then (c <<< 1) ^^^ 0x1021#16 else c <<< 1

/-- Some shift steps. -/
def crcShifts : Nat → Word → Word
  | 0, c => c
  | k + 1, c => crcShifts k (crcShift c)

/-- One byte folded in, most significant bit first (R110). -/
def crcByte (c : Word) (b : Byte) : Word := crcShifts 8 (c ^^^ (b.setWidth 16 <<< 8))

/-- The value an accumulation starts from (R13, R110). -/
def crcInit : Word := 0xFFFF

/-- The CRC-16 of some bytes in order. -/
def crc16 (bs : List Byte) : Word := bs.foldl crcByte crcInit

/-! ## The header (R10, R194, R195) -/

/-- The 24 header data bits: bit k is Dk, byte 0 bit 0 being D0 (R194). -/
abbrev HeaderData := BitVec 24

/-- The positions of D0 to D23: 3 to 29 but for the powers of two, ascending (R194). -/
def headerPositions : List Nat :=
  [3, 5, 6, 7, 9, 10, 11, 12, 13, 14, 15, 17, 18, 19, 20, 21, 22, 23, 24, 25, 26, 27, 28, 29]

/-- The position of data bit k. -/
def headerPosition (k : Nat) : Nat := headerPositions.getD k 0

/-- The exclusive or of some bits. -/
def xorAll (bs : List Bool) : Bool := bs.foldl Bool.xor false

/-- Check bit Ck for k from 0 to 4: the XOR of the data bits whose position has bit k set (R195). -/
def headerCheck (d : HeaderData) (k : Nat) : Bool :=
  xorAll ((List.range 24).map fun j => d.getLsbD j && (headerPosition j).testBit k)

/-- The XOR of all 24 data bits. -/
def headerParity (d : HeaderData) : Bool := xorAll ((List.range 24).map d.getLsbD)

/-- Check bits C0 to C4, bit k being Ck (R195). -/
def headerChecks (d : HeaderData) : BitVec 5 :=
  BitVec.ofNat 5 ((List.range 5).foldl (fun n k => n + if headerCheck d k then 2 ^ k else 0) 0)

/-- The XOR of check bits C0 to C4. -/
def checksParity (c : BitVec 5) : Bool := xorAll ((List.range 5).map c.getLsbD)

/-- Check bit C5 (R195). -/
def headerOverall (d : HeaderData) : Bool := Bool.xor (headerParity d) (checksParity (headerChecks d))

/-- The check byte as sent: bits 6 and 7 are 0 (R195). -/
def checkByte (d : HeaderData) : Byte := (headerChecks d).setWidth 8 ||| bitIf (headerOverall d) 5

/-- Bytes 0 to 2 as header data. -/
def headerData (b0 b1 b2 : Byte) : HeaderData :=
  b0.setWidth 24 ||| (b1.setWidth 24 <<< 8) ||| (b2.setWidth 24 <<< 16)

/-- Header byte k, from 0 to 2. -/
def headerByte (d : HeaderData) (k : Nat) : Byte := (d >>> (8 * k)).setWidth 8

/-- The data bit at a position, if a data bit stands there. -/
def dataBitAt (position : Nat) : Option Nat := (List.range 24).find? fun k => headerPosition k == position

/-- What a receiver makes of four header bytes (R10). -/
inductive HeaderVerdict where
  /-- Used as received. -/
  | clean (d : HeaderData)
  /-- One bit was flipped; the data as corrected. -/
  | corrected (d : HeaderData)
  | uncorrectable
deriving DecidableEq, Repr

/-- The syndrome S of R10: bit k is set where recomputed Ck differs from received Ck. -/
def syndrome (d : HeaderData) (check : Byte) : BitVec 5 := headerChecks d ^^^ check.setWidth 5

/-- The overall result E of R10: the XOR of all 24 data bits and the six received check bits. -/
def overallResult (d : HeaderData) (check : Byte) : Bool :=
  Bool.xor (headerParity d) (Bool.xor (checksParity (check.setWidth 5)) (check.getLsbD 5))

/-- The decoding of a header (the table of R10). -/
def decodeHeader (d : HeaderData) (check : Byte) : HeaderVerdict :=
  let s := (syndrome d check).toNat
  if overallResult d check then
    if s = 0 ∨ s = 1 ∨ s = 2 ∨ s = 4 ∨ s = 8 ∨ s = 16 then .corrected d
    else
      match dataBitAt s with
      | some k => .corrected (d ^^^ (1#24 <<< k))
      | none => .uncorrectable
  else if s = 0 then .clean d
  else .uncorrectable

end Sys2Proof.Machine
end

