-- ==== Sys2Proof/Machine/Power.lean ====
section
/-! DEFINITION. The board power sequencer's own transitions (R47, R48, R50, R57, R64), the settings in force
(R46, R63), and the thermal band (R61, R62). What a change of state sets off in the lanes and the job is in
Job.lean and Monitor.lean. -/

namespace Sys2Proof.Machine

/-- Replaces the sequencer and monitor. -/
def setPower (p : Power) (d : Device) : Device := { d with power := p }

/-- Every rail run and the current run at 0 (R46, R52, R53). -/
def clearRuns (p : Power) : Power :=
  { p with rails := Vector.ofFn fun r => { p.rails[r] with run := 0, first := none }, currentRun := 0 }

/-- Every excursion-seen mark clear (R55, R56). -/
def clearExcursions (p : Power) : Power :=
  { p with rails := Vector.ofFn fun r => { p.rails[r] with excursion := false } }

/-- The sequencer in a state whose switch is open, reached from any state. The runs stay 0 outside RISING and ON,
and the rise end frame is present only in RISING (R45, R47, R52, R53). -/
def openTo (st : PowerState) (p : Power) : Power :=
  { clearRuns p with state := st, switchClosed := false, riseEnd := none }

/-- A power request (R48). -/
def powerRequest (p : Power) : Power :=
  match p.state with
  | .off => { p with state := .asking }
  | .tripped => { p with state := .asking }
  | .falling => { p with pendingRequest := true }
  | .asking => p
  | .rising => p
  | .on => p

/-- A power-off request, at the sequencer itself (R48). Every entry to FALLING sets the fall count to 0. -/
def powerOffRequest (p : Power) : Power :=
  match p.state with
  | .off => p
  | .asking => { p with state := .off }
  | .rising => { openTo .falling p with fallCount := 0 }
  | .on => { openTo .falling p with fallCount := 0 }
  | .falling => { p with pendingRequest := false }
  | .tripped => { p with state := .off }

/-- Whether a power-off request enters OFF (R48, R59). -/
def offEntered (p : Power) : Bool :=
  match p.state with
  | .asking => true
  | .tripped => true
  | _ => false

/-- An own grant whose rise ends at frame e: taken in ASKING, not used in any other state (R50). -/
def ownGrant (e : Frame) (p : Power) : Power :=
  if p.state = .asking then
    { p with state := .rising, switchClosed := true, riseEnd := some e, currentRun := 0 }
  else p

/-- The sequencer tripped (R52, R53, R55). -/
def tripped (p : Power) : Power := openTo .tripped p

/-- The sequencer at a rise that passes its end test (R55). -/
def risen (p : Power) : Power :=
  { clearExcursions (clearRuns p) with state := .on, switchClosed := true, riseEnd := none }

/-- The sequencer across a warm restart (R45, R64). -/
def Power.restarted (p : Power) : Power :=
  { clearExcursions (openTo (if p.state.closed then .falling else .off) p) with
      pendingRequest := false, fallCount := 0 }

/-- Whether rail r's latest sample is inside its window (R46, R55). -/
def railInside (p : Power) (r : RailId) : Bool := insideWindow p.settings.windows[r] p.rails[r].sample

/-- The lowest-numbered rail that is outside its window (R55). -/
def firstOutside (p : Power) : Option RailId := (List.finRange 4).find? fun r => !railInside p r

/-- Whether the latest samples of all four rails are below 500 mV (R57). -/
def railsDown (p : Power) : Bool :=
  (List.finRange 4).all fun r => decide (p.rails[r].sample < Config.railDown)

/-! ## The thermal band (R62) -/

/-- The band after a judged reading (R62). -/
def nextBand (s : MonitorSettings) (b : Band) (t : Int) : Band :=
  match b with
  | .cold => if s.hotAt ≤ t then .hot else if s.warmAt ≤ t then .warm else .cold
  | .warm => if s.hotAt ≤ t then .hot else if t < s.warmAt - 4 then .cold else .warm
  | .hot => if t < s.warmAt - 4 then .cold else if t < s.hotAt - 4 then .warm else .hot

/-- A reading's temperature, held to the nearer end of the range (R61). -/
def saturateTemp (t : Int) : Int := max (-80) (min 300 t)

/-- The temperature reading of a mark (R61). -/
def readTemperature (reading : TempReading) (d : Device) : Device :=
  match reading with
  | .sensorOpen => raiseCause .sensorRange d
  | .halfDegrees t =>
    let d1 := setPower { d.power with temperature := some (saturateTemp t),
                                      band := nextBand d.power.settings d.power.band (saturateTemp t) } d
    if saturateTemp t = t then d1 else raiseCause .sensorRange d1

/-! ## Settings coming into force (R46, R63, R161) -/

/-- Whether any rail window or current limit is named. -/
def namesSupervision (n : NamedSettings) : Bool :=
  (List.finRange 4).any (fun r => n.windows[r].isSome) || n.inrush.isSome || n.run.isSome

/-- Whether a threshold of the thermal band is named. -/
def namesThreshold (n : NamedSettings) : Bool := n.warmAt.isSome || n.hotAt.isSome

/-- hot_at raised to warm_at + 8 where it is below (R63). -/
def raiseHot (warm hot : Int) : Int := max hot (warm + 8)

/-- The monitor's settings with the named ones in force (R46, R63). -/
def mergeMonitor (n : NamedSettings) (s : MonitorSettings) : MonitorSettings :=
  let warm := n.warmAt.getD s.warmAt
  let hot := n.hotAt.getD s.hotAt
  { s with windows := Vector.ofFn fun r => n.windows[r].getD s.windows[r],
           inrush := n.inrush.getD s.inrush, run := n.run.getD s.run, warmAt := warm,
           hotAt := if namesThreshold n then raiseHot warm hot else s.hotAt }

/-- The monitor as named settings come into force: the runs restart where a window or a limit is among them
(R46, R161). -/
def monitorInForce (n : NamedSettings) (p : Power) : Power :=
  let p1 := { p with settings := mergeMonitor n p.settings }
  if namesSupervision n then clearRuns p1 else p1

end Sys2Proof.Machine
end

