-- ==== Sys2Proof/Machine/Job.lean ====
section
/-! DEFINITION. The job controller's work on the other blocks: settings into force (R161), the requests to the
lanes (R89, R91, R92), the counted CYCLE (R164, R165), the closing test and the verdict (R172 to R174), trips
(R170), power OFF reached (R168, R172) and the dwell (R169). -/

namespace Sys2Proof.Machine

/-- Replaces the job. -/
def setJob (j : Job) (d : Device) : Device := { d with job := j }

/-! ## Settings (R160, R161) -/

/-- Named settings laid over the staged set: each replaces or is added, and the rest stay (R160). -/
def stage (n old : NamedSettings) : NamedSettings :=
  { windows := Vector.ofFn fun r => (n.windows[r]).or old.windows[r], inrush := n.inrush.or old.inrush,
    run := n.run.or old.run, warmAt := n.warmAt.or old.warmAt, hotAt := n.hotAt.or old.hotAt,
    rackLimit := n.rackLimit.or old.rackLimit, period := n.period.or old.period,
    offDwell := n.offDwell.or old.offDwell, floor := n.floor.or old.floor,
    levels := Vector.ofFn fun i => (n.levels[i]).or old.levels[i] }

/-- Whether the notice floor or a cause level is named. -/
def namesNotices (n : NamedSettings) : Bool :=
  n.floor.isSome || allCauses.any fun i => n.levels[i].isSome

/-- The cause unit with the named levels and floor in force (R152). -/
def mergeCauses (n : NamedSettings) (u : CauseUnit) : CauseUnit :=
  { records := Vector.ofFn fun i => { u.records[i] with level := n.levels[i].getD u.records[i].level },
    floor := n.floor.getD u.floor }

/-- The levels and floor handed to the cause unit, which offers the notices that then pass (R152, R161). -/
def noticesInForce (n : NamedSettings) (d : Device) : Device :=
  if namesNotices n then offerAll { d with causes := mergeCauses n d.causes } else d

/-- Named settings brought into force, in one handling (R161). -/
def inForce (n : NamedSettings) (d : Device) : Device :=
  let d1 := setPower (monitorInForce n d.power) d
  let d2 := setJob { d1.job with rackLimit := n.rackLimit.getD d1.job.rackLimit,
                                 period := n.period.getD d1.job.period,
                                 offDwell := n.offDwell.getD d1.job.offDwell } d1
  noticesInForce n d2

/-- The staged set brought into force and emptied (R161). -/
def stagedInForce (d : Device) : Device :=
  inForce d.job.staged (setJob { d.job with staged := NamedSettings.none } d)

/-! ## Requests to the lanes (R89, R91, R92) -/

/-- A request a lane takes between step events. -/
inductive LaneRequest where
  | finish | hold | stop | powerLeft
deriving DecidableEq, Repr

/-- A capture lane's window abandoned: closed without compare (R109). -/
def abandon (i : LaneId) (d : Device) : Device := setCapture i { capture d i with window := none } d

/-- What a step event sets off that is taken after it (R87), or, at the step events of the starts that the job gives
in one handling, after all the starts (R86, R163). -/
inductive Deferred where
  /-- A request to each lane. -/
  | request (r : LaneRequest)
  /-- The power-off request of a power cycle. -/
  | powerOff
  /-- A lane's report to the job that it has ended. -/
  | report
deriving DecidableEq, Repr

/-- A lane stopped by request (R91). -/
def stoppedLane (l : Lane) : Lane := { l with state := .stopped, resume := none, holdLeft := 0, timer := .stopped }

/-- The time a running step timer has left (R92). -/
def timeLeft (now : Nat) (t : StepTimer) : Nat :=
  match t with
  | .running due => due - now
  | .frozen left => left
  | .stopped => 0

/-- A lane held, to return to the state it left (R92). -/
def heldLane (now : Nat) (r : ResumeState) (l : Lane) : Lane :=
  { l with state := .held, resume := some r, timer := .frozen (timeLeft now l.timer) }

/-- A lane takes a request; a request that the lane's state does not list has no effect (R85, R89, R91, R92). -/
def takeRequest (r : LaneRequest) (i : LaneId) (d : Device) : Device :=
  let l := lane d i
  match r, l.state with
  | .finish, .playing => setLane i { l with state := .finishing } d
  | .finish, .held => setLane i { l with resume := some .finishing } d
  | .hold, .playing => setLane i (heldLane d.now .playing l) d
  | .hold, .finishing => setLane i (heldLane d.now .finishing l) d
  | .stop, .playing => setLane i (stoppedLane l) (abandon i d)
  | .stop, .finishing => setLane i (stoppedLane l) (abandon i d)
  | .stop, .held => setLane i (stoppedLane l) (abandon i d)
  | .powerLeft, .playing => setLane i (stoppedLane l) (abandon i d)
  | .powerLeft, .finishing => setLane i (stoppedLane l) (abandon i d)
  | _, _ => d

/-- A request given to each lane, in lane order. -/
def giveLanes (r : LaneRequest) (d : Device) : Device := allLanes.foldl (fun x i => takeRequest r i x) d

/-! ## Power off (R48, R59) -/

/-- A power-off request at the sequencer, with power leaving ON handed to the lanes (R48, R59, R91). -/
def requestOff (d : Device) : Device :=
  let d1 := setPower (powerOffRequest d.power) d
  if d.power.state = .on then giveLanes .powerLeft d1 else d1

/-! ## Closing (R172 to R174) -/

/-- Whether every enabled lane has ended (R172). -/
def allEnded (d : Device) : Bool := allLanes.all fun i => !enabled d i || (lane d i).state.ended

/-- The verdict as the job leaves CLOSING (R174). -/
def verdictNow (d : Device) : Verdict :=
  if d.engine.table.any (fun r => r.latch) then .fail
  else if d.job.closing = some .exhausted then .fail
  else if d.job.rackLimit < d.job.rackEvents then .inconclusive
  else if d.engine.table.any (fun r => decide (Config.suspectScore ≤ r.score)) then .marginal
  else if d.job.closing = some .aborted then .incomplete
  else .pass

/-- The job leaves CLOSING (R173). -/
def leaveClosing (d : Device) : Device :=
  raiseCause .jobEnded
    (setJob { d.job with state := if d.job.closing = some .target then .concluded else .aborted,
                         verdict := verdictNow d, closing := none } d)

/-- Step 2 of the closing test (R172). -/
def leaveIfDone (d : Device) : Device :=
  if d.job.state = .closing ∧ allEnded d ∧ d.power.state = .off ∧ d.engine.queue = [] then leaveClosing d else d

/-- The closing test (R172), without effect in any other job state. A power-off request that makes the state OFF
at once brings power OFF reached, whose test is step 2 of this one. -/
def closingTest (d : Device) : Device :=
  if d.job.state = .closing ∧ allEnded d then
    leaveIfDone (if d.power.state = .off then d else requestOff d)
  else d

/-- The job enters CLOSING for a reason, with the staged set brought into force (R161, R164, R167, R170, R171).
The test at the entry (R172) is made by the caller, after the requests that go with the entry. -/
def enterClosing (reason : ClosingReason) (d : Device) : Device :=
  stagedInForce (setJob { d.job with state := .closing, closing := some reason, finishDue := false, phase := none,
                                     dwell := none } d)

/-- A request given to each lane, and the closing test that the lanes' reports of having stopped bring (R172). -/
def giveLanesAndTest (r : LaneRequest) (d : Device) : Device :=
  let d1 := giveLanes r d
  if allLanes.any fun i => (lane d1 i).state.ended && !(lane d i).state.ended then closingTest d1 else d1

/-! ## Power OFF reached (R168, R172) -/

/-- Power OFF reached (R163, R168, R172). -/
def jobPowerOff (d : Device) : Device :=
  if d.job.state = .cycling ∧ d.job.phase = some .awaitingOff then
    setJob { d.job with phase := some .dwelling, dwell := some d.job.offDwell } d
  else closingTest d

/-- A power-off request from outside the closing test, with all it sets off (R48, R59). -/
def givePowerOff (d : Device) : Device :=
  let d1 := requestOff d
  if offEntered d.power then jobPowerOff d1 else d1

/-- A power request (R48). -/
def givePower (d : Device) : Device := setPower (powerRequest d.power) d

/-- The sequencer reaches OFF from FALLING; a pending request makes it ASKING at once (R57, R59). -/
def fallDone (d : Device) : Device :=
  let d1 := jobPowerOff (setPower { d.power with state := .off } d)
  if d.power.pendingRequest then setPower { d1.power with state := .asking, pendingRequest := false } d1 else d1

/-! ## The dwell (R169) -/

/-- The end of a dwell: the job gives a power request, and awaits ON (R168 to R170). -/
def dwellEnd (d : Device) : Device :=
  if d.job.phase = some .dwelling then
    givePower (setJob { d.job with phase := some .awaitingOn, dwell := none } d)
  else d

/-- The dwell countdown at an accepted mark (R169). -/
def dwellMark (d : Device) : Device :=
  match d.job.phase, d.job.dwell with
  | some .dwelling, some k => if k ≤ 1 then dwellEnd d else setJob { d.job with dwell := some (k - 1) } d
  | _, _ => d

/-! ## Trips (R170) -/

/-- A trip reaches the job (R170). -/
def jobTrip (d : Device) : Device :=
  match d.job.state with
  | .closing => closingTest d
  | .empty => d
  | .ready => d
  | .concluded => d
  | .aborted => d
  | .powering | .running | .paused | .cycling | .recovering =>
    let d1 := giveLanes .stop d
    if d.job.state = .paused ∧ d.job.finishDue then closingTest (enterClosing .target d1)
    else if d1.job.retriesUsed < d1.job.retries then
      setJob { d1.job with state := .recovering, retriesUsed := d1.job.retriesUsed + 1, phase := some .dwelling,
                           dwell := some d1.job.offDwell } d1
    else closingTest (enterClosing .exhausted d1)

/-! ## Counting cycles (R164, R165) -/

/-- Whether a CYCLE is counted in the state it finds (R164, R165). -/
def countsCycle (j : Job) : Bool :=
  decide (j.state = .running) || (decide (j.state = .paused) && !j.finishDue)

/-- Steps 1 to 3 of a counted CYCLE (R164). -/
def countCycle (d : Device) : Device :=
  stagedInForce (decayTable (setJob { d.job with cycles := d.job.cycles + 1 } d))

/-- Whether the count meets a nonzero target (R164). -/
def targetMet (j : Job) : Bool :=
  match j.target with
  | some t => decide (t ≠ 0 ∧ j.cycles = t)
  | none => false

/-- Whether a power cycle is due (R164). -/
def powerCycleDue (j : Job) : Bool := decide (j.period ≠ 0 ∧ j.cycles % j.period = 0)

/-- The job at the start of a power cycle (R164, R168). -/
def enterCycling (d : Device) : Device :=
  setJob { d.job with state := .cycling, phase := some .awaitingOff, finishDue := false } d

/-- The sequencer takes the power-off request of a power cycle, but for what reaches the lanes (R48, R164, R168). -/
def cyclePowerOff (d : Device) : Device :=
  let d1 := setPower (powerOffRequest d.power) d
  if offEntered d.power then jobPowerOff d1 else d1

/-- The requests that a power cycle gives the lanes: the hold, and power leaving ON where it does (R59, R164). -/
def cycleRequests (p : PowerState) : List Deferred :=
  if p = .on then [.request .hold, .request .powerLeft] else [.request .hold]

/-- A CYCLE handed on by the lead lane's run and taken by the job, with what is taken after the current step event
(R87, R164, R165). While the job is giving starts, the power-off request of a power cycle waits with the requests to
the lanes, since every start finds power ON (R86; log entry 6). The test at an entry to CLOSING finds the lead lane
in its run, so it has no effect there. -/
def jobCycle (giving : Bool) (d : Device) : Device × List Deferred :=
  if countsCycle d.job then
    let d1 := countCycle d
    if targetMet d1.job then
      if d.job.state = .paused then (setJob { d1.job with finishDue := true } d1, [.request .finish])
      else (enterClosing .target d1, [.request .finish])
    else if powerCycleDue d1.job then
      let d2 := enterCycling d1
      if giving then (d2, .powerOff :: cycleRequests d1.power.state)
      else (cyclePowerOff d2, cycleRequests d1.power.state)
    else (d1, [])
  else (d, [])

end Sys2Proof.Machine
end

