-- ==== Sys2Proof/Machine/Operands.lean ====
section
/-! DEFINITION. What the controller reads from the link's items (R14, R196, R197) and from the argument bytes of
command items (R158, R198), and the words of the stream codes (R199, R200). -/

namespace Sys2Proof.Machine

/-! ## Rack items (R196, R197) -/

/-- A command item as it stands in a slot-0 payload (R196). -/
structure CommandItem where
  target : Byte
  seq : Byte
  kind : Byte
  args : List Byte
deriving DecidableEq, Repr

/-- An item of a good message, as far as the controller reads it (R15, R28, R30, R32). -/
inductive Item where
  | present (power : PowerState) (job : Option JobState) (budget : Nat)
  | disturb (lag : Nat)
  | ask (window : Nat)
  /-- NOTICE and REPLY: addressed to the bench and not acted on (R15). -/
  | forBench
  | command (c : CommandItem)
deriving DecidableEq, Repr

/-- The power state a PRESENT reports: 6 and 7 are taken as OFF (R197). -/
def powerOfCode (n : Nat) : PowerState :=
  match n with
  | 1 => .asking
  | 2 => .rising
  | 3 => .on
  | 4 => .falling
  | 5 => .tripped
  | _ => .off

/-- The job state a PRESENT reports: 10 to 15 are taken as none (R197). -/
def jobOfCode (n : Nat) : Option JobState :=
  match n with
  | 0 => some .empty
  | 1 => some .ready
  | 2 => some .powering
  | 3 => some .running
  | 4 => some .paused
  | 5 => some .cycling
  | 6 => some .recovering
  | 7 => some .closing
  | 8 => some .concluded
  | 9 => some .aborted
  | _ => none

/-- The length of the item that begins some payload bytes, where its kind is known for the slot and its length can
be measured (R14, R196, R197). -/
def itemLength (slotZero : Bool) (bs : List Byte) : Option Nat :=
  match slotZero, nat8 bs 0 with
  | true, 0x10 => some (5 + nat8 bs 4)
  | false, 0x01 => some 8
  | false, 0x02 => some 4
  | false, 0x03 => some 4
  | false, 0x04 => some 6
  | false, 0x05 => if 6 ≤ nat8 bs 1 then some (nat8 bs 1) else none
  | _, _ => none

/-- The item in the bytes that hold it whole (R196). -/
def readItem (bs : List Byte) : Item :=
  match nat8 bs 0 with
  | 0x01 => .present (powerOfCode (nat8 bs 1 % 8)) (jobOfCode (nat8 bs 1 / 16)) (nat8 bs 2 / 16 % 4 + 1)
  | 0x02 => .disturb (nat8 bs 1)
  | 0x03 => .ask (nat8 bs 1)
  | 0x10 => .command ⟨byteAt bs 1, byteAt bs 2, byteAt bs 3, bs.drop 5⟩
  | _ => .forBench

/-- The parse of a payload into exactly `count` items that end with the payload (R14). A command item whose
argument length byte lies beyond the payload runs past it, as an item of unknown length does. -/
def parseItems (slotZero : Bool) : Nat → List Byte → Option (List Item)
  | 0, [] => some []
  | 0, _ :: _ => none
  | _ + 1, [] => none
  | count + 1, b :: bs =>
    match itemLength slotZero (b :: bs) with
    | none => none
    | some n =>
      if n ≤ (b :: bs).length then
        match parseItems slotZero count ((b :: bs).drop n) with
        | some items => some (readItem ((b :: bs).take n) :: items)
        | none => none
      else none

/-! ## Arguments of the job commands (R158, R198)

Each reading of arguments gives what the command stores after clamping, and whether the clamping changed a
value. -/

/-- A value taken as the nearer end of its range, and whether that changed it (R158). -/
def clamp (low high n : Nat) : Nat × Bool := (max low (min high n), decide (n < low ∨ high < n))

/-- What a JOB-LANES carries (R198). -/
structure LanesArgs where
  starts : Vector Nat 4
  mask : Nat
  target : Nat
  window : Nat
  retries : Nat
  clamped : Bool
deriving DecidableEq, Repr

/-- The arguments of a JOB-LANES, with the rise window and the retries clamped (R158 step 3). -/
def lanesArgs (args : List Byte) : LanesArgs :=
  let window := clamp 4 64 (nat8 args 11)
  let retries := clamp 0 3 (nat8 args 12)
  { starts := Vector.ofFn fun i => nat16 args (2 * i.val), mask := nat8 args 8, target := nat16 args 9,
    window := window.1, retries := retries.1, clamped := window.2 || retries.2 }

/-- Whether the names byte, or the names word, of a command item sets bit k (R198). -/
def named (names k : Nat) : Bool := names.testBit k

/-- A named value, clamped; an unnamed one is absent and changes nothing (R157). -/
def namedValue (isNamed : Bool) (low high n : Nat) : Option Nat × Bool :=
  if isNamed then (some (clamp low high n).1, (clamp low high n).2) else (none, false)

/-- The named rail window of a JOB-RAILS, clamped (R157, R158, R198). -/
def railArg (args : List Byte) (r : RailId) : Option RailWindow × Bool :=
  let low := clamp 0 Config.fullScale (nat16 args (1 + 4 * r.val))
  let high := clamp 0 Config.fullScale (nat16 args (3 + 4 * r.val))
  if named (nat8 args 0) r.val then (some ⟨low.1, high.1⟩, low.2 || high.2) else (none, false)

/-- The settings a JOB-RAILS names, and whether any was clamped (R158, R198). -/
def railsArgs (args : List Byte) : NamedSettings × Bool :=
  let inrush := namedValue (named (nat8 args 0) 4) 0 Config.fullScale (nat16 args 17)
  let run := namedValue (named (nat8 args 0) 5) 0 Config.fullScale (nat16 args 19)
  ({ NamedSettings.none with
      windows := Vector.ofFn fun r => (railArg args r).1, inrush := inrush.1, run := run.1 },
    (List.finRange 4).any (fun r => (railArg args r).2) || inrush.2 || run.2)

/-- A rail window whose low value is above its high value (R158 step 2). -/
def badWindow (w : Option RailWindow) : Bool :=
  match w with
  | some w => decide (w.high < w.low)
  | none => false

/-- warm_at clamped to −80..+300 (R158). -/
def clampWarm (t : Int) : Int := max (-80) (min 300 t)

/-- hot_at clamped to at most 308 and, where the item names warm_at as well, to at least that warm_at + 8
(R158). -/
def clampHot (warm : Option Int) (t : Int) : Int :=
  match warm with
  | some w => max (w + 8) (min 308 t)
  | none => min 308 t

/-- The settings a JOB-LIMITS names, and whether any was clamped (R158, R198). -/
def limitsArgs (args : List Byte) : NamedSettings × Bool :=
  let names := nat8 args 0
  let warm := if named names 0 then some (clampWarm (int16 args 1)) else none
  let hot := if named names 1 then some (clampHot warm (int16 args 3)) else none
  let dwell := namedValue (named names 4) 8 255 (nat8 args 8)
  ({ NamedSettings.none with
      warmAt := warm, hotAt := hot,
      rackLimit := if named names 2 then some (nat16 args 5) else none,
      period := if named names 3 then some (nat8 args 7) else none,
      offDwell := dwell.1 },
    decide (warm ≠ none ∧ warm ≠ some (int16 args 1)) || decide (hot ≠ none ∧ hot ≠ some (int16 args 3)) ||
      dwell.2)

/-- The level of cause i + 1 that a JOB-CAUSES names, clamped (R158, R198). -/
def levelArg (args : List Byte) (i : Fin 15) : Option Nat × Bool :=
  namedValue (named (nat16 args 0) (i.val + 1)) 0 7 (nat8 args (3 + i.val))

/-- The settings a JOB-CAUSES names, and whether any was clamped (R158, R198). -/
def causesArgs (args : List Byte) : NamedSettings × Bool :=
  let floor := namedValue (named (nat16 args 0) 0) 0 7 (nat8 args 2)
  ({ NamedSettings.none with floor := floor.1, levels := Vector.ofFn fun i => (levelArg args i).1 },
    floor.2 || (List.finRange 15).any fun i => (levelArg args i).2)

/-- The words a LOAD carries (R198). -/
def loadWords (args : List Byte) : List Word :=
  (List.range (nat8 args 2)).map fun k => BitVec.ofNat 16 (nat16 args (3 + 2 * k))

/-- Whether a LOAD's argument length is the one its word count calls for (R181, R198). -/
def loadLengthOk (args : List Byte) : Bool :=
  decide (3 ≤ args.length ∧ args.length = 3 + 2 * nat8 args 2)

/-! ## Stream codes (R199, R200) -/

/-- A stream code, by its first word (R67's table of codes, R199). -/
inductive Code where
  | stop
  | vector (v : Byte)
  | hold (n : Nat)
  | loop (n : Nat)
  | again
  | strobe (tag : Byte)
  | openWindow (tag : Byte)
  | closeWindow (tag : Byte)
  | mark (k : Byte)
  | rate
  | park (v : Byte)
  | wrap
  | undefinedCode
deriving DecidableEq, Repr

/-- The low byte of a first word: the tag, byte or count of a code (R199). -/
def lowByte (w : Word) : Byte := w.setWidth 8

/-- The high byte of a word (R199: the expected byte of a STROBE). -/
def highByte (w : Word) : Byte := (w >>> 8).setWidth 8

/-- The code that a first word holds (R81, R199, R200). -/
def decodeCode (w : Word) : Code :=
  match w.toNat / 4096 with
  | 0 => if w = 0 then .stop else .undefinedCode
  | 1 => .vector (lowByte w)
  | 2 => .hold (w.toNat % 4096)
  | 3 => .loop (lowByte w).toNat
  | 4 => .again
  | 5 => .strobe (lowByte w)
  | 6 => .openWindow (lowByte w)
  | 7 => .closeWindow (lowByte w)
  | 8 => .mark (lowByte w)
  | 9 => .rate
  | 10 => .park (lowByte w)
  | 11 => .wrap
  | _ => .undefinedCode

/-- How many words a code holds (R67's table, R199). -/
def codeWords : Code → Nat
  | .strobe _ => 2
  | .closeWindow _ => 2
  | .rate => 2
  | _ => 1

/-- Whether a code takes a step (R68). -/
def isStepCode : Code → Bool
  | .vector _ => true
  | .hold _ => true
  | _ => false

/-- The first word of a code with every ignored bit 0 (R199). An undefined code has none of its own; it is given
the word 0xC000, which is one. -/
def encodeCode : Code → Word
  | .stop => 0
  | .vector v => 0x1000#16 ||| v.setWidth 16
  | .hold n => BitVec.ofNat 16 (0x2000 + n % 4096)
  | .loop n => BitVec.ofNat 16 (0x3000 + n % 256)
  | .again => 0x4000
  | .strobe tag => 0x5000#16 ||| tag.setWidth 16
  | .openWindow tag => 0x6000#16 ||| tag.setWidth 16
  | .closeWindow tag => 0x7000#16 ||| tag.setWidth 16
  | .mark k => 0x8000#16 ||| k.setWidth 16
  | .rate => 0x9000
  | .park v => 0xA000#16 ||| v.setWidth 16
  | .wrap => 0xB000
  | .undefinedCode => 0xC000

end Sys2Proof.Machine
end

