-- ==== Sys2Proof/Machine/Lanes.lean ====
section
/-! DEFINITION. The capture lanes' sampling, strobes and windows (R101 to R109), the stream codes (R68 to R83), the
step event (R87), the start of a lane (R86) and its resume (R93), and power ON reached (R163). -/

namespace Sys2Proof.Machine

/-! ## Capture lanes -/

/-- A capture lane after the sample of a step event (R101). -/
def sampled (b : Byte) (c : Capture) : Capture :=
  match c.window with
  | some _ => { c with sample := b, signature := crcByte c.signature b, count := min 65535 (c.count + 1) }
  | none => { c with sample := b }

/-- The levels at lane i's capture pins change. -/
def presentPins (i : LaneId) (b : Byte) (d : Device) : Device := { d with pins := d.pins.set i b }

/-- The levels at every capture pin change. -/
def presentAllPins (pins : CapturePins) (d : Device) : Device := { d with pins := pins }

/-- The first action of a step event: the capture lane samples its pins (R87, R101). -/
def takeSample (i : LaneId) (d : Device) : Device := setCapture i (sampled d.pins[i] (capture d i)) d

/-- The capture lane's last result and ever-failed flag after an evaluation (R102, R107). -/
def recordResult (failed : Bool) (c : Capture) : Capture :=
  { c with result := if failed then .fail else .pass, everFailed := c.everFailed || failed }

/-- One judged pin of a strobe: an event where it fails, an opportunity where it passes (R102, R103). -/
def judgePin (i : LaneId) (tag failing mask : Byte) (d : Device) (pin : Fin 8) : Device :=
  if failing.getLsbD pin then takeEvent (.strobe i pin tag) d.link.frame d
  else if mask.getLsbD pin then opportunity (.strobe i pin tag) d
  else d

/-- A strobe on lane i (R102), which hands nothing on where it is void (R105) or selects no pin (R104). -/
def strobe (i : LaneId) (tag expected mask : Byte) (d : Device) : Device :=
  if d.power.state ≠ .on ∨ mask = 0 then d
  else
    let failing := ((capture d i).sample ^^^ expected) &&& mask
    let d1 := (List.finRange 8).foldl (judgePin i tag failing mask) d
    setCapture i (recordResult (failing != 0) (capture d1 i)) d1

/-- An OPEN on lane i (R106). -/
def openWindow (i : LaneId) (tag : Byte) (d : Device) : Device :=
  let d1 := setCapture i { capture d i with window := some tag, signature := crcInit, count := 0 } d
  if (capture d i).window.isSome then raiseCause .windowMisuse d1 else d1

/-- A CLOSE on lane i (R107, R108), not compared where it is void (R105). -/
def closeWindow (i : LaneId) (tag : Byte) (expected : Word) (d : Device) : Device :=
  let c := capture d i
  let d1 := setCapture i { c with window := none } d
  if c.window ≠ some tag then raiseCause .windowMisuse d1
  else if d.power.state ≠ .on then d1
  else
    let d2 := setCapture i (recordResult (c.signature != expected) (capture d1 i)) d1
    if c.signature = expected then opportunity (.signature i tag) d2
    else takeEvent (.signature i tag) d.link.frame d2

/-! ## Stream codes -/

/-- A lane's position after a code of some words (R69). -/
def advance (words : Nat) (i : LaneId) (d : Device) : Device :=
  setLane i { lane d i with position := (lane d i).position + words } d

/-- A code fault (R83, R94): the lane is FAULTED where it stands. -/
def codeFault (k : FaultKind) (i : LaneId) (d : Device) : Device :=
  raiseCause .codeFault
    (setLane i { lane d i with state := .faulted, fault := some k, holdLeft := 0, timer := .stopped } (abandon i d))

/-- A lane stopped by its own END or WRAP (R70, R80, R90). -/
def streamStop (i : LaneId) (d : Device) : Device :=
  setLane i { lane d i with state := .stopped, holdLeft := 0, timer := .stopped } (abandon i d)

/-- A VECTOR (R71). -/
def driveVector (v : Byte) (i : LaneId) (d : Device) : Device :=
  setLane i { lane d i with vector := v, position := (lane d i).position + 1 } d

/-- A HOLD, whose count of 0 acts as 1 (R72). -/
def driveHold (n : Nat) (i : LaneId) (d : Device) : Device :=
  setLane i { lane d i with holdLeft := n - 1, position := (lane d i).position + 1 } d

/-- What one code leads to: the run is over, or goes on, with what a CYCLE set off for after the step event. -/
inductive CodeResult where
  | over (d : Device)
  | next (d : Device) (later : List Deferred)

/-- A REPEAT (R73). -/
def repeatCode (n : Nat) (i : LaneId) (d : Device) : CodeResult :=
  let l := lane d i
  if n = 0 ∨ 2 ≤ l.stack.length then .over (codeFault .loop i d)
  else .next (setLane i { l with stack := ⟨l.position + 1, n⟩ :: l.stack, position := l.position + 1 } d) []

/-- An AGAIN (R74). -/
def againCode (i : LaneId) (d : Device) : CodeResult :=
  let l := lane d i
  match l.stack with
  | [] => .over (codeFault .loop i d)
  | e :: rest =>
    if 1 < e.remaining then
      .next (setLane i { l with stack := { e with remaining := e.remaining - 1 } :: rest, position := e.returnTo } d)
        []
    else .next (setLane i { l with stack := rest, position := l.position + 1 } d) []

/-- A MARK (R77): CYCLE on the lead lane, or a NOTE. The position has advanced. -/
def markCode (giving : Bool) (k : Byte) (i : LaneId) (d : Device) : CodeResult :=
  if k = 1 then
    if leadLane d = some i then .next (jobCycle giving d).1 (jobCycle giving d).2 else .next d []
  else .next (raiseCause .streamNote (setLane i { lane d i with note := some k } d)) []

/-- A WRAP (R80): to the lane start in PLAYING; a stop in FINISHING. -/
def wrapCode (i : LaneId) (d : Device) : CodeResult :=
  let l := lane d i
  if l.state = .finishing then .over (streamStop i d)
  else .next (setLane i { l with stack := [], position := d.job.starts[i] } d) []

/-- The second word of a two-word code (R69). -/
def secondWord (i : LaneId) (d : Device) : Word := patternRead d.pattern ((lane d i).position + 1)

/-- One code at the lane's position, which holds a word of memory, within the limit of the run (R68 to R82). A
two-word code at the last word has no second word (R69). `giving` says that the run belongs to a start. -/
def oneCode (giving : Bool) (i : LaneId) (d : Device) : CodeResult :=
  let l := lane d i
  let code := decodeCode (patternRead d.pattern l.position)
  if codeWords code = 2 ∧ l.position + 1 = Config.patternWords then .over (codeFault .bounds i d)
  else
    match code with
    | .stop => .over (streamStop i d)
    | .vector v => .over (driveVector v i d)
    | .hold n => .over (driveHold n i d)
    | .loop n => repeatCode n i d
    | .again => againCode i d
    | .strobe tag =>
      let w := secondWord i d
      .next (strobe i tag (highByte w) (lowByte w) (advance 2 i d)) []
    | .openWindow tag => .next (openWindow i tag (advance 1 i d)) []
    | .closeWindow tag => .next (closeWindow i tag (secondWord i d) (advance 2 i d)) []
    | .mark k => markCode giving k i (advance 1 i d)
    | .rate => .next (advance 2 i (setLane i { l with period := max 2 (secondWord i d).toNat } d)) []
    | .park v => .next (advance 1 i (setLane i { l with park := v } d)) []
    | .wrap => wrapCode i d
    | .undefinedCode => .over (codeFault .undefinedCode i d)

/-- The code after a run's 64 non-step codes: a step code is executed, and any other faults the lane (R82). -/
def lastCode (i : LaneId) (d : Device) : Device :=
  match decodeCode (patternRead d.pattern (lane d i).position) with
  | .vector v => driveVector v i d
  | .hold n => driveHold n i d
  | _ => codeFault .stepless i d

/-- A code run with room for some more non-step codes (R68, R69, R82), and what its CYCLEs set off. -/
def codeRun (giving : Bool) (i : LaneId) : Nat → Device → Device × List Deferred
  | 0, d => (if Config.patternWords ≤ (lane d i).position then codeFault .bounds i d else lastCode i d, [])
  | k + 1, d =>
    if Config.patternWords ≤ (lane d i).position then (codeFault .bounds i d, [])
    else
      match oneCode giving i d with
      | .over d1 => (d1, [])
      | .next d1 later =>
        let r := codeRun giving i k d1
        (r.1, later ++ r.2)

/-! ## Step events -/

/-- Loads a lane's step timer with the step period in force (R78, R87, R88). -/
def loadTimer (i : LaneId) (d : Device) : Device :=
  setLane i { lane d i with timer := .running (d.now + (lane d i).period) } d

/-- A step event of a lane in PLAYING or FINISHING, handled whole (R87), with what is taken after it. A lane that it
ends reports so to the job (R172); while the job is giving starts, the report waits (R86; log entry 6). -/
def stepCore (giving : Bool) (i : LaneId) (d : Device) : Device × List Deferred :=
  let d1 := takeSample i d
  let l := lane d1 i
  if 0 < l.holdLeft then (loadTimer i (setLane i { l with holdLeft := l.holdLeft - 1 } d1), [])
  else
    let r := codeRun giving i Config.runLimit d1
    if (lane r.1 i).state.going then (loadTimer i r.1, r.2)
    else if giving then (r.1, r.2 ++ [.report])
    else (closingTest r.1, r.2)

/-- What a step event set off is taken (R48, R87, R172). -/
def takeDeferred (d : Device) : Deferred → Device
  | .request r => giveLanesAndTest r d
  | .powerOff => cyclePowerOff d
  | .report => closingTest d

/-- What step events set off is taken, in order (R87). -/
def deliver (later : List Deferred) (d : Device) : Device := later.foldl takeDeferred d

/-- The step event of an expiry of lane i's step timer (R87, R88): a lane whose timer does not run makes none. -/
def stepExpiry (i : LaneId) (d : Device) : Device :=
  match (lane d i).timer with
  | .running due =>
    if (lane d i).state.going then
      let r := stepCore false i (atMoment due d)
      deliver r.2 r.1
    else d
  | .frozen _ => d
  | .stopped => d

/-! ## Starting and resuming (R86, R93, R163) -/

/-- A lane set afresh by a start, before its first step event (R86). -/
def freshLane (start : Nat) (st : LaneState) (l : Lane) : Lane :=
  { l with state := st, resume := none, position := start, stack := [], holdLeft := 0, vector := 0, period := 100,
           timer := .stopped, park := 0, note := none, fault := none }

/-- A start of lane i (R86): its first step event where power is ON; otherwise the lane is left STOPPED. -/
def startLane (i : LaneId) (d : Device) : Device × List Deferred :=
  let d1 := abandon i d
  if d.power.state = .on then stepCore true i (setLane i (freshLane d.job.starts[i] .playing (lane d i)) d1)
  else (setLane i (freshLane d.job.starts[i] .stopped (lane d i)) d1, [.report])

/-- Starts of some lanes in order, with what their step events set off for after the starts. No start changes the
power state, so each finds what the first one found (R86). -/
def startLanes : List LaneId → Device → Device × List Deferred
  | [], d => (d, [])
  | i :: rest, d =>
    let r := startLane i d
    let r2 := startLanes rest r.1
    (r2.1, r.2 ++ r2.2)

/-- The job's states in which power ON reached brings RUNNING (R163). -/
def awaitsOn (j : Job) : Bool :=
  match j.state with
  | .powering => true
  | .cycling => decide (j.phase = some .awaitingOn)
  | .recovering => decide (j.phase = some .awaitingOn)
  | _ => false

/-- Power ON reached (R163): RUNNING, and a start to each lane of the enable mask in lane order. What the starts' own
step events set off, in the lanes, the sequencer and the job's closing test, is taken after the starts, which
therefore all find power ON (R86). The manual gives no order for it; this one is the model's (log entry 6). -/
def jobPowerOn (d : Device) : Device :=
  if awaitsOn d.job then
    let d1 := setJob { d.job with state := .running, phase := none } d
    let r := startLanes (allLanes.filter (enabled d1)) d1
    deliver r.2 r.1
  else d

/-- The lane state a HELD lane returns to (R93). -/
def resumeTo (r : Option ResumeState) : LaneState :=
  match r with
  | some .finishing => .finishing
  | _ => .playing

/-- A lane takes a resume request (R93), but for the step event of a lane frozen with no time left. -/
def resumeLane (d : Device) (i : LaneId) : Device :=
  let l := lane d i
  if l.state = .held then
    if d.power.state = .on then
      setLane i { l with state := resumeTo l.resume, resume := none,
                         timer := .running (d.now + timeLeft d.now l.timer) } d
    else setLane i (stoppedLane l) (abandon i d)
  else d

/-- A lane that steps at the resume itself: HELD with no time left, with power ON (R93). -/
def stepsAtResume (d : Device) (i : LaneId) : Bool :=
  decide ((lane d i).state = .held ∧ d.power.state = .on ∧ timeLeft d.now (lane d i).timer = 0)

/-- The step events at a resume, in lane order, with what they set off for after them all. A lane that an earlier
one's end has stopped makes none. DESIGN CHOICE: the manual gives no order between the lanes' step events at a resume
(R88), nor for what one of them sets off against the others (log entry 24). -/
def resumeSteps : List LaneId → Device → Device × List Deferred
  | [], d => (d, [])
  | i :: rest, d =>
    let r := if (lane d i).state.going then stepCore false i d else (d, [])
    let r2 := resumeSteps rest r.1
    (r2.1, r.2 ++ r2.2)

/-- A resume request to each lane (R93, R167), and the closing test that a lane's report of having stopped brings
(R172). Every lane takes the request before the step events that fall at the resume itself. DESIGN CHOICE: the
requests that these set off (finish, hold, power leaving ON) reach the lanes after the last of them, where the manual
gives no order; the power-off request and the closing test of a lane's end are taken at once (log entry 24). -/
def giveResume (d : Device) : Device :=
  let d1 := allLanes.foldl resumeLane d
  let d2 := if allLanes.any fun i => (lane d1 i).state.ended && !(lane d i).state.ended then closingTest d1 else d1
  let r := resumeSteps (allLanes.filter (stepsAtResume d)) d2
  deliver r.2 r.1

/-- Lane i across a warm restart (R84). -/
def Lane.restarted (l : Lane) : Lane :=
  { l with state := .idle, resume := none, holdLeft := 0, timer := .stopped, fault := none }

/-- A capture lane across a warm restart (R100). -/
def Capture.restarted (c : Capture) : Capture := { c with window := none }

end Sys2Proof.Machine
end

