-- ==== Sys2Proof/Machine/PeerView.lean ====
section
/-! DEFINITION. The peer view: slot outcomes (R27), the items taken from a peer (R28 to R32), and the handling of a
mark (R31, R33 to R40). -/

namespace Sys2Proof.Machine

/-- Replaces the peer view. -/
def setView (v : PeerView) (d : Device) : Device := { d with view := v }

/-- The record of peer s. -/
def peer (d : Device) (s : StationId) : Peer := d.view.peers[s]

/-- Replaces the record of peer s. -/
def setPeer (s : StationId) (p : Peer) (d : Device) : Device :=
  setView { d.view with peers := d.view.peers.set s p } d

/-- Replaces the frame note of slot s. -/
def setNote (s : StationId) (n : SlotNote) (d : Device) : Device :=
  setView { d.view with notes := d.view.notes.set s n } d

/-! ## Slot outcomes (R15, R27). Slot 0 is not a peer. -/

/-- A record after a good outcome (R27). -/
def heardGood (p : Peer) : Peer := { p with present := true, silent := 0 }

/-- A record after a blind or a silent outcome (R26, R27). -/
def heardNothing (p : Peer) : Peer :=
  if Config.silentLimit ≤ p.silent then p
  else if p.silent + 1 = Config.silentLimit ∧ p.present then Peer.absent
  else { p with silent := p.silent + 1 }

/-- A good outcome (R27). -/
def goodOutcome (s : StationId) (d : Device) : Device :=
  if s = 0 then d else setPeer s (heardGood (peer d s)) d

/-- A blind outcome (R27). -/
def blindOutcome (s : StationId) (d : Device) : Device :=
  if s = 0 then d else setNote s .blind (setPeer s (heardNothing (peer d s)) d)

/-- A silent outcome (R27). -/
def silentOutcome (s : StationId) (d : Device) : Device :=
  if s = 0 then d else setPeer s (heardNothing (peer d s)) d

/-! ## Items (R28 to R32) -/

/-- A reported budget lowers the effective budget where it differs from the strap budget (R29). -/
def lowerBudget (reported : Nat) (d : Device) : Device :=
  if reported = strapBudget d then d
  else setView { d.view with budget := min reported d.view.budget } d

/-- A PRESENT item of peer s (R28, R29). -/
def takePresent (s : StationId) (power : PowerState) (job : Option JobState) (budget : Nat) (d : Device) : Device :=
  let p := peer d s
  let d1 := setPeer s { p with power := power, job := job, budget := some budget } (lowerBudget budget d)
  if budget ≠ strapBudget d ∧ p.budget ≠ some budget then raiseCause .strapMismatch d1 else d1

/-- A ring with peer s disturbed in the frame of a lag of 0 or 1; any other lag has no effect (R32). -/
def markDisturbed (s : StationId) (lag : Nat) (ring : List RingEntry) : List RingEntry :=
  match lag, ring with
  | 0, e :: rest => { e with disturbed := e.disturbed ||| baySingle s } :: rest
  | 1, e :: f :: rest => e :: { f with disturbed := f.disturbed ||| baySingle s } :: rest
  | _, _ => ring

/-- A DISTURB item of peer s (R32). -/
def takeDisturb (s : StationId) (lag : Nat) (d : Device) : Device :=
  setView { d.view with ring := markDisturbed s lag d.view.ring } d

/-- The window an ASK is taken to carry (R30). -/
def askWindow (w : Nat) : Nat := max 4 (min 64 w)

/-- An ASK item of peer s (R30). -/
def takeAsk (s : StationId) (w : Nat) (d : Device) : Device :=
  setNote s (.ask (askWindow w)) (setPeer s { peer d s with window := askWindow w } d)

/-! ## The mark (R31, R33 to R40) -/

/-- The ring shift: an empty entry for the new frame, and the oldest of the five removed (R31). -/
def shiftRing (ring : List RingEntry) : List RingEntry := (RingEntry.empty :: ring).take 5

/-- The entries that have not expired at the mark beginning frame n (R35). -/
def liveEntries (n : Frame) (roster : List RosterEntry) : List RosterEntry :=
  roster.filter fun e => !frameEarlier e.finish n

/-- Whether a bay holds a roster entry (R34). -/
def holdsEntry (roster : List RosterEntry) (s : StationId) : Bool := roster.any fun e => decide (e.bay = s)

/-- The entry for a window that begins at frame n (R34). -/
def rosterEntry (s : StationId) (n : Frame) (window : Nat) (phantom : Bool) : RosterEntry :=
  { bay := s, start := n, finish := n + BitVec.ofNat 32 window, phantom := phantom }

/-- Whether slot s may be given an entry: it holds none, and the budget test passes (R36). -/
def mayEnter (v : PeerView) (s : StationId) : Bool :=
  !holdsEntry v.roster s && decide (v.roster.length < v.budget)

/-- The ring with peer s rising in the newest frame (R33). -/
def markRising (s : StationId) (ring : List RingEntry) : List RingEntry :=
  match ring with
  | e :: rest => { e with rising := e.rising ||| baySingle s } :: rest
  | [] => []

/-- The grant pass at one slot, at the mark beginning frame n, by the notes of the frame ended (R36, R37). -/
def grantSlot (own : Option StationId) (n : Frame) (v : PeerView) (s : StationId) : PeerView :=
  match v.notes[s] with
  | .quiet => v
  | .ask w =>
    if mayEnter v s then
      { v with roster := v.roster ++ [rosterEntry s n w false],
               ring := if own = some s then v.ring else markRising s v.ring }
    else v
  | .blind =>
    if mayEnter v s ∧ v.peers[s].power = .asking then
      { v with roster := v.roster ++ [rosterEntry s n v.peers[s].window true] }
    else v

/-- Slots 1 to 15, in order. -/
def peerSlots : List StationId := (List.finRange 16).drop 1

/-- The peer view's handling of the mark beginning frame n, but for the hand-over of an own grant (R40). -/
def viewMark (own : Option StationId) (n : Frame) (v : PeerView) : PeerView :=
  let v1 := { v with ring := shiftRing v.ring, roster := liveEntries n v.roster }
  let v2 := peerSlots.foldl (grantSlot own n) v1
  { v2 with listening := v2.listening - 1, notes := Vector.replicate 16 .quiet }

/-- The end frame of an own grant that this mark made (R38): the own bay's entry that starts at frame n. -/
def ownGrantAt (own : Option StationId) (n : Frame) (v before : PeerView) : Option Frame :=
  match own with
  | none => none
  | some b =>
    if holdsEntry (liveEntries n before.roster) b then none
    else (v.roster.find? fun e => decide (e.bay = b) && !e.phantom).map fun e => e.finish

end Sys2Proof.Machine
end

