-- ==== Sys2Proof/Machine/Link.lean ====
section
/-! DEFINITION. The rack link's slots, reception (R8 to R15) and transmission (R16 to R22, R150, R151). The command
items of a slot-0 message are executed by Bench.lean. -/

namespace Sys2Proof.Machine

/-- Replaces the link controller. -/
def setLink (l : Link) (d : Device) : Device := { d with link := l }

/-! ## Reception (R8 to R15) -/

/-- The slot the controller receives in: the current one, unless it is the own slot (R8, R9). -/
def receivingSlot (d : Device) : Option StationId :=
  match d.link.slot with
  | some s => if ownSlot d = some s then none else some s
  | none => none

/-- Sets the reception of the current slot. -/
def setReception (r : Reception) (d : Device) : Device := setLink { d.link with reception := r } d

/-- A message of slot s discarded: its kind is recorded and the slot is blind for the frame (R10 to R15). -/
def discard (k : ErrorKind) (s : StationId) (d : Device) : Device :=
  blindOutcome s (addError k (setReception .done d))

/-- The tests of a usable header's fields, in order (R11): the first that fails, if any. -/
def headerFault (s : StationId) (h : HeaderData) : Option ErrorKind :=
  let sender := (headerByte h 0).toNat / 16
  let format := (headerByte h 0).toNat % 16
  let length := (headerByte h 1).toNat
  let count := (headerByte h 2).toNat
  if sender ≠ s.val then some .slotMismatch
  else if Config.maxPayload < length then some .overlong
  else if format ≠ 1 then some .unknownItem
  else if length = 0 ∧ count ≠ 0 then some .unknownItem
  else none

/-- A usable header in slot s (R11): discarded, a good empty message, or the payload awaited. -/
def useHeader (s : StationId) (h : HeaderData) (d : Device) : Device :=
  match headerFault s h with
  | some k => discard k s d
  | none =>
    if (headerByte h 1).toNat = 0 then goodOutcome s (setReception .done d)
    else setReception (.awaiting (headerByte h 1).toNat (headerByte h 2).toNat) d

/-- Four bytes have arrived in slot s (R10). -/
def receiveHeader (s : StationId) (b0 b1 b2 b3 : Byte) (d : Device) : Device :=
  match decodeHeader (headerData b0 b1 b2) b3 with
  | .clean h => useHeader s h d
  | .corrected h => useHeader s h (addError .hdrCorrected d)
  | .uncorrectable => discard .hdrUncorrectable s d

/-- The header event: without effect in the own slot, outside slot timing, and after four bytes (R8, R12). -/
def headerEvent (b0 b1 b2 b3 : Byte) (d : Device) : Device :=
  match receivingSlot d, d.link.reception with
  | some s, .idle => receiveHeader s b0 b1 b2 b3 d
  | _, _ => d

/-- A message under way, or the line activity before its header is complete, discarded as TRUNCATED (R12). -/
def truncate (d : Device) : Device :=
  match receivingSlot d, d.link.reception with
  | some s, .idle => discard .truncated s d
  | some s, .awaiting _ _ => discard .truncated s d
  | _, _ => d

/-- The checksum bytes that follow a payload, as a word (R194). -/
def checksumOf (bs : List Byte) (length : Nat) : Word := BitVec.ofNat 16 (nat16 bs length)

/-- What becomes of a message whose awaited bytes have arrived (R13, R14): its items, or the kind it is discarded
with. -/
def judgeMessage (s : StationId) (length count : Nat) (bs : List Byte) : Except ErrorKind (List Item) :=
  if crc16 (bs.take length) ≠ checksumOf bs length then .error .checksum
  else
    match parseItems (decide (s = 0)) count (bs.take length) with
    | some items => .ok items
    | none => .error .unknownItem

/-- An item of a peer's good message, routed (R15). -/
def routePeerItem (s : StationId) (d : Device) (item : Item) : Device :=
  match item with
  | .present power job budget => takePresent s power job budget d
  | .disturb lag => takeDisturb s lag d
  | .ask w => takeAsk s w d
  | .forBench => d
  | .command _ => d

/-- Whether this bay takes a command item: its target is the own bay number or 0; a bay strapped 0 takes those
with target 0 (R15, R180). -/
def takesItem (d : Device) (c : CommandItem) : Bool := decide (c.target.toNat = 0 ∨ c.target.toNat = d.link.bay.toNat)

/-! ## Slot timing (R8, R15) -/

/-- The outcome of a slot at its end (R12, R15): a message under way, or line activity that brought no header, is
TRUNCATED; a slot without line activity is silent; the own slot has no outcome. -/
def endSlot (lineActive : Bool) (d : Device) : Device :=
  match receivingSlot d, d.link.reception with
  | some s, .idle => if lineActive then discard .truncated s d else silentOutcome s (setReception .done d)
  | some s, .awaiting _ _ => discard .truncated s d
  | _, _ => d

/-- The slot after a slot; none after slot 15. -/
def slotAfter (s : StationId) : Option StationId := if h : s.val + 1 < 16 then some ⟨s.val + 1, h⟩ else none

/-- A slot's 1 ms has passed: its outcome, and the next slot. -/
def slotEnd (lineActive : Bool) (d : Device) : Device :=
  match d.link.slot with
  | none => d
  | some s =>
    let d1 := endSlot lineActive d
    atMoment ((d.link.previousMark.getD 0) + (s.val + 1) * Config.slotPeriod)
      (setLink { d1.link with slot := slotAfter s, reception := .idle } d1)

/-- The slots that an accepted mark leaves without their time, each silent for the frame (R15). -/
def slotsLeft (s : StationId) : List StationId := (List.finRange 16).drop (s.val + 1)

/-- The end of slot timing at an accepted mark (R3, R8, R12, R27). -/
def endSlots (lineActive : Bool) (d : Device) : Device :=
  match d.link.slot with
  | none => d
  | some s =>
    (slotsLeft s).foldl (fun x k => if ownSlot d = some k then x else silentOutcome k x) (endSlot lineActive d)

/-! ## Assembly (R21, R22, R150) -/

/-- The code of a power state (R196). -/
def powerCode : PowerState → Nat
  | .off => 0
  | .asking => 1
  | .rising => 2
  | .on => 3
  | .falling => 4
  | .tripped => 5

/-- The code of a job state (R196). -/
def jobCode : JobState → Nat
  | .empty => 0
  | .ready => 1
  | .powering => 2
  | .running => 3
  | .paused => 4
  | .cycling => 5
  | .recovering => 6
  | .closing => 7
  | .concluded => 8
  | .aborted => 9

/-- The code of a verdict (R196). -/
def verdictCode : Verdict → Nat
  | .none => 0
  | .pass => 1
  | .marginal => 2
  | .inconclusive => 3
  | .incomplete => 4
  | .fail => 5

/-- The code of a reason (R196). -/
def reasonCode : Reason → Nat
  | .accepted => 0
  | .clamped => 1
  | .busy => 2
  | .range => 3
  | .state => 4
  | .unknown => 5

/-- The PRESENT item (R22, R196). -/
def presentBytes (d : Device) : List Byte :=
  [0x01, byteOf (powerCode d.power.state + 16 * jobCode d.job.state),
    byteOf (verdictCode d.job.verdict + 16 * d.link.budgetStrap.toNat), byteOf (lanesPlaying d)] ++
  be16 d.link.errors.toNat ++ [0, 0]

/-- A DISTURB item (R23, R196). -/
def disturbBytes (n : Frame) (e : Disturb) : List Byte :=
  [0x02, byteOf (frameAge n e.frame), bitIf e.rail 0 ||| bitIf e.burst 1, 0]

/-- An ASK item (R22, R196). -/
def askBytes (window : Nat) : List Byte := [0x03, byteOf window, 0, 0]

/-- The length of a reply (R182). -/
def replyLength (r : Reply) : Nat := 6 + r.data.length

/-- A REPLY item (R182, R196). -/
def replyBytes (r : Reply) : List Byte :=
  [0x05, byteOf (replyLength r), r.kind, r.seq, byteOf (reasonCode r.reason), bitIf r.more 0] ++ r.data

/-- A NOTICE item of the cause at a place (R150, R196). -/
def noticeBytes (u : CauseUnit) (i : Fin 15) : List Byte :=
  [0x04, byteOf (i.val + 1), byteOf u.records[i].level, byteOf u.records[i].count, 0, 0]

/-- The replies taken from the head of the queue while they fit in a space (R21). -/
def fittingReplies : Nat → List Reply → List Reply
  | _, [] => []
  | space, r :: rest => if replyLength r ≤ space then r :: fittingReplies (space - replyLength r) rest else []

/-- Whether the notice of the cause at a place is queued. -/
def isQueued (m : CauseSet) (i : Fin 15) : Bool := m.getLsbD (i.val + 1)

/-- The queued notices that pass their test, by level, highest first, and among equal levels by cause number,
lowest first (R150). -/
def noticeOrder (u : CauseUnit) (queued : CauseSet) : List (Fin 15) :=
  [7, 6, 5, 4, 3, 2, 1].flatMap fun level =>
    allCauses.filter fun i => isQueued queued i && passesTest u i && decide (u.records[i].level = level)

/-- The set of the causes at some places. -/
def causeSet (is : List (Fin 15)) : CauseSet := is.foldl (fun m i => m ||| causeSingle i) 0

/-- The total length of some replies. -/
def repliesLength (rs : List Reply) : Nat := rs.foldl (fun n r => n + replyLength r) 0

/-- The DISTURB entries as assembled: the older frame's first, at most two (R21, R23). -/
def orderedDisturbs (n : Frame) (q : List Disturb) : List Disturb :=
  ((q.filter fun e => e.frame == n - 1) ++ (q.filter fun e => e.frame == n)).take 2

/-- The window of the ASK that an assembly places, where R22 calls for one. -/
def askPlaced (d : Device) : Option Nat :=
  if d.power.state = .asking ∧ d.view.listening = 0 then some d.power.settings.riseWindow else none

/-- The four header bytes of a message of `sender` (R194, R195). -/
def headerBytes (sender length count : Nat) : List Byte :=
  let h := headerData (byteOf (16 * sender + 1)) (byteOf length) (byteOf count)
  [headerByte h 0, headerByte h 1, headerByte h 2, checkByte h]

/-- A whole message: the header, the payload and, when it is not empty, its checksum (R16, R194). -/
def messageBytes (sender count : Nat) (payload : List Byte) : List Byte :=
  headerBytes sender payload.length count ++ payload ++
    (if payload = [] then [] else be16 (crc16 payload).toNat)

/-- The assembly of the own message (R21, R22, R150). -/
def assemble (d : Device) : Flight :=
  let disturbs := orderedDisturbs d.link.frame d.link.disturbs
  let ask := askPlaced d
  let fixed := 8 + 4 * disturbs.length + (if ask.isSome then 4 else 0)
  let replies := fittingReplies (Config.maxPayload - fixed) d.bench.replies
  let space := Config.maxPayload - fixed - repliesLength replies
  let notices := (noticeOrder d.causes d.link.notices).take (space / 6)
  let items :=
    [presentBytes d] ++ disturbs.map (disturbBytes d.link.frame) ++
    (match ask with
     | some w => [askBytes w]
     | none => []) ++
    replies.map replyBytes ++ notices.map (noticeBytes d.causes)
  { errors := d.link.errors, disturbs := disturbs, ask := ask, replies := replies.length,
    notices := causeSet notices, bytes := messageBytes d.link.bay.toNat items.length items.flatten }

/-- The notice queue after assembly: a notice whose cause now fails its test is removed (R150). -/
def testedNotices (u : CauseUnit) (queued : CauseSet) : CauseSet := queued &&& passing u

/-! ## Transmission (R16 to R19, R151) -/

/-- Whether the controller begins a message now: NORMAL, in its own slot, none begun in this frame (R16). -/
def mayTransmit (d : Device) : Bool :=
  decide (d.link.mode = .normal ∧ d.link.slot ≠ none ∧ d.link.slot = ownSlot d) && !d.link.begun

/-- The moment at which the first k bits of the own message have been driven; it begins 100 µs into the own slot
(R8, R16). -/
def bitMoment (d : Device) (k : Nat) : Nat :=
  d.link.previousMark.getD 0 + d.link.bay.toNat * Config.slotPeriod + Config.ownStart + k * Config.bitTime

/-- The start of the own message, 100 µs into the own slot (R16). -/
def beginMessage (d : Device) : Device :=
  if mayTransmit d then
    atMoment (bitMoment d 0)
      (setLink { d.link with flight := some (assemble d), begun := true,
                             notices := testedNotices d.causes d.link.notices } d)
  else d

/-- The levels that the own message drives onto the message line, in the order sent (R193). -/
def Flight.levels (f : Flight) : List Bool := lineLevels f.bytes

/-- The place, in the order sent, of the bit-time that the present moment falls in (R8, R193). -/
def bitAt (d : Device) : Nat := (d.now - bitMoment d 0) / Config.bitTime

/-- The level that the controller drives onto the message line; none while it drives none (R16, R193). -/
def messageLevel (d : Device) : Option Bool :=
  match d.link.flight with
  | some f => f.levels[bitAt d]?
  | none => none

/-- The levels that COLLISION says were read back: each bit as driven, up to the one being driven as the event comes,
which is not. DESIGN CHOICE: past the last bit-time it is the last bit (log entry 21). -/
def levelsAtCollision (f : Flight) (d : Device) : List Bool :=
  let k := min (bitAt d) (f.levels.length - 1)
  (f.levels.modify k not).take (k + 1)

/-- The own message stopped at bit k, which read back wrong (R17). DESIGN CHOICE: the moment is the end of that bit
(log entry 21). -/
def stopAtBit (k : Nat) (d : Device) : Device :=
  addError .collision (atMoment (bitMoment d (k + 1)) (setLink { d.link with flight := none, collided := true } d))

/-- A collision of the own message, at the first bit whose level read back differs from the bit driven (R17, R193). -/
def collide (d : Device) : Device :=
  match d.link.flight with
  | some f =>
    match firstDifference f.levels (levelsAtCollision f d) with
    | some k => stopAtBit k d
    | none => d
  | none => d

/-- A DISTURB entry after its item was sent clean: nothing where it gained no source in flight, and otherwise those
sources alone (R18, R23). -/
def unsentPart (sent : List Disturb) (e : Disturb) : Option Disturb :=
  match sent.find? fun s => s.frame == e.frame with
  | none => some e
  | some s =>
    let rest : Disturb := ⟨e.frame, e.rail && !s.rail, e.burst && !s.burst⟩
    if rest.rail || rest.burst then some rest else none

/-- The causes of a set notified (R18, R151). -/
def notifyCauses (m : CauseSet) (u : CauseUnit) : CauseUnit :=
  { u with records := Vector.ofFn fun i =>
      if isQueued m i then { u.records[i] with notified := true } else u.records[i] }

/-- The own ASK noted as sent clean in the current frame (R18, R30). -/
def noteOwnAsk (ask : Option Nat) (d : Device) : Device :=
  match ask, ownSlot d with
  | some w, some s => setNote s (.ask w) d
  | _, _ => d

/-- The own message has gone out clean (R18, R151). -/
def sentClean (f : Flight) (d : Device) : Device :=
  noteOwnAsk f.ask
    { d with
      link := { d.link with flight := none, errors := d.link.errors &&& ~~~f.errors, collisionRun := 0,
                            disturbs := d.link.disturbs.filterMap (unsentPart f.disturbs),
                            notices := d.link.notices &&& ~~~f.notices },
      causes := notifyCauses f.notices d.causes,
      bench := { d.bench with replies := d.bench.replies.drop f.replies } }

/-- The end of a transmission with every bit read back correctly, which is the end of its last bit (R8, R18, R193). -/
def transmissionEnd (d : Device) : Device :=
  match d.link.flight with
  | some f => atMoment (bitMoment d f.levels.length) (sentClean f d)
  | none => d

/-- The third consecutive collision: DUPLICATE-BAY, LISTEN-ONLY, and the queues emptied (R19). -/
def duplicateBay (d : Device) : Device :=
  let d1 := raiseCause .duplicateBay d
  { d1 with link := { d1.link with mode := .listenOnly, disturbs := [], notices := 0 },
            bench := { d1.bench with replies := [] } }

/-- The collision run at the end of a frame (R19). -/
def endRun (d : Device) : Device :=
  if d.link.collided then
    let d1 := setLink { d.link with collisionRun := d.link.collisionRun + 1 } d
    if 3 ≤ d.link.collisionRun + 1 then duplicateBay d1 else d1
  else d

/-- The end of a frame at an accepted mark: the slot timing, a transmission cut short, and the collision run
(R3, R8, R17, R19). -/
def endFrame (lineActive : Bool) (d : Device) : Device :=
  let d1 := endSlots lineActive d
  endRun (setLink { d1.link with flight := none } d1)

/-- The link controller across a warm restart (R1). -/
def Link.restarted (l : Link) : Link := { l with errors := 0, disturbs := [], notices := 0, collisionRun := 0 }

end Sys2Proof.Machine
end

