-- ==== Sys2Proof/Machine/Monitor.lean ====
section
/-! DEFINITION. Trips, glitches and the supervision of converter samples (R51 to R54, R57, R60). -/

namespace Sys2Proof.Machine

/-- The sequencer trips from RISING or ON, on what the caller names: the state, the cause, the TRIP event and the
hand-over to the lanes and the job belong to one handling (R52, R53, R55, R59). -/
def tripWith (c : Cause) (r : RailId) (disturb : Bool) (d : Device) : Device :=
  let d1 := raiseCause c (setPower (tripped d.power) d)
  let d2 := takeEvent (.trip r) d.link.frame d1
  let d3 := if disturb then requestDisturb d.link.frame .rail d2 else d2
  let d4 := if d.power.state = .on then giveLanes .powerLeft d3 else d3
  jobTrip d4

/-- A trip on current or on a rail (R52, R53). -/
def railTrip (r : RailId) (d : Device) : Device := tripWith .railTrip r true d

/-- A glitch that ends on rail r, whose run began in frame f (R54). -/
def railGlitch (r : RailId) (f : Frame) (d : Device) : Device :=
  let d1 := takeEvent (.glitch r) f (raiseCause .railGlitch d)
  let d2 := requestDisturb f .rail d1
  setPower { d2.power with rails := d2.power.rails.set r { d2.power.rails[r] with run := 0, first := none } } d2

/-- The reading as stored, held at full scale (R51). -/
def heldReading (reading : Nat) : Nat := min Config.fullScale reading

/-- A full-scale reading raises SENSOR-RANGE once for each run (R51). -/
def fullScaleCause (wasFull : Bool) (reading : Nat) (d : Device) : Device :=
  if Config.fullScale ≤ reading ∧ wasFull = false then raiseCause .sensorRange d else d

/-- The limit in force for the current (R52). -/
def currentLimit (p : Power) : Nat := if p.state = .rising then p.settings.inrush else p.settings.run

/-- The supervision of a current sample in RISING and ON (R52). -/
def superviseCurrent (sample : Nat) (d : Device) : Device :=
  if d.power.state.closed then
    if currentLimit d.power < sample then
      if 2 ≤ d.power.currentRun then railTrip 0 d
      else setPower { d.power with currentRun := d.power.currentRun + 1 } d
    else setPower { d.power with currentRun := 0 } d
  else d

/-- A sample on the current channel (R51, R52). -/
def sampleCurrent (reading : Nat) (d : Device) : Device :=
  let d1 := setPower { d.power with current := heldReading reading,
                                    currentFull := decide (Config.fullScale ≤ reading) } d
  superviseCurrent (heldReading reading) (fullScaleCause d.power.currentFull reading d1)

/-- An outside sample on rail r in ON, not the third of its run (R53). -/
def outsideSample (r : RailId) (d : Device) : Device :=
  let l := d.power.rails[r]
  setPower { d.power with
    rails := d.power.rails.set r { l with run := l.run + 1, excursion := true,
                                          first := if l.run = 0 then some d.link.frame else l.first } } d

/-- The supervision of rail r's latest sample in ON (R53, R54). The third outside sample sets the excursion-seen
mark before the trip. -/
def superviseRail (r : RailId) (d : Device) : Device :=
  let l := d.power.rails[r]
  if railInside d.power r then
    if l.run = 0 then d else railGlitch r (l.first.getD d.link.frame) d
  else if 2 ≤ l.run then railTrip r (outsideSample r d)
  else outsideSample r d

/-- A sample on rail r (R51, R53, R54, R57). -/
def sampleRail (r : RailId) (reading : Nat) (d : Device) : Device :=
  let l := d.power.rails[r]
  let d1 := setPower { d.power with
    rails := d.power.rails.set r { l with sample := heldReading reading,
                                          fullScale := decide (Config.fullScale ≤ reading) } } d
  let d2 := fullScaleCause l.fullScale reading d1
  match d2.power.state with
  | .on => superviseRail r d2
  | .falling => if railsDown d2.power then fallDone d2 else d2
  | .off => d2
  | .asking => d2
  | .rising => d2
  | .tripped => d2

/-- A sample event on a channel (R51). -/
def sampleChannel (c : Channel) (reading : Nat) (d : Device) : Device :=
  match c with
  | .rail r => sampleRail r reading d
  | .current => sampleCurrent reading d

/-- GLITCH opportunities for the rails without an excursion in the frame ended (R56). -/
def glitchOpportunities (p : Power) (d : Device) : Device :=
  (List.finRange 4).foldl (fun x r => if p.rails[r].excursion then x else opportunity (.glitch r) x) d

/-- TRIP opportunities for the four rails (R56). -/
def tripOpportunities (d : Device) : Device :=
  (List.finRange 4).foldl (fun x r => opportunity (.trip r) x) d

end Sys2Proof.Machine
end

