-- ==== Sys2Proof/Machine/Readouts.lean ====
section
/-! DEFINITION. The readouts of the queries, byte by byte (R201), from the state as it stands. -/

namespace Sys2Proof.Machine

/-! ## Record, snapshot and header readouts (R141 to R143) -/

/-- The code of a locus's kind. -/
def kindCode : Locus → Nat
  | .strobe _ _ _ => 0
  | .signature _ _ => 1
  | .glitch _ => 2
  | .trip _ => 3

/-- The code of a class. -/
def classCode : RecordClass → Nat
  | .noted => 0
  | .suspect => 1
  | .confirmed => 2

/-- Bytes 6 to 8 of a record readout: the lane or rail, the pin and the tag. -/
def locusBytes : Locus → List Byte
  | .strobe lane pin tag => [byteOf lane.val, byteOf pin.val, tag]
  | .signature lane tag => [byteOf lane.val, 0xFF, tag]
  | .glitch rail => [byteOf rail.val, 0, 0]
  | .trip rail => [byteOf rail.val, 0, 0]

/-- Byte 5 of a record readout. -/
def recordFlags (r : SuspectRecord) : Byte :=
  byteOf (kindCode r.locus + 4 * classCode (recordClass r)) ||| bitIf (!solid r) 4 ||| bitIf r.latch 5 |||
    bitIf r.pinned 6 ||| bitIf r.snapshot.isSome 7

/-- The 28-byte readout of the record at an index. -/
def recordReadout (index : Nat) (r : SuspectRecord) : List Byte :=
  [byteOf index] ++ be32 r.serial ++ [recordFlags r] ++ locusBytes r.locus ++ be32 r.firstStamp.toNat ++
    be32 r.lastStamp.toNat ++ [byteOf r.lastCount] ++ be16 r.score ++ be16 r.hits ++ be16 r.opportunities ++
    [byteOf r.cold, byteOf r.warm, byteOf r.hot, 0]

/-- The 30-byte readout of snapshot k, attached to a record. -/
def snapshotReadout (serial : Nat) (k : Fin 8) (c : Conditions) : List Byte :=
  be32 serial ++ [1, byteOf k.val] ++ be32 c.stamp.toNat ++ c.rails.toList.flatMap be16 ++ be16 c.current ++
    be16Signed c.temperature ++ c.positions.toList.flatMap be16

/-- The 5-byte readout of a record with no snapshot. -/
def noSnapshotReadout (serial : Nat) : List Byte := be32 serial ++ [0]

/-- The 22-byte header readout. -/
def headerReadout (g : Engine) : List Byte :=
  [byteOf g.table.length] ++ be32 g.nextSerial ++ be16 g.rackEvents ++ be32 g.overflows ++ be32 g.earlySettles ++
    be32 g.evictions ++ [byteOf g.queue.length, byteOf (freeCount g.pool), byteOf (pinnedCount g.table)]

/-! ## Causes readout (R155) -/

/-- The three bytes of the cause at a place. -/
def causeReadout (d : Device) (i : Fin 15) : List Byte :=
  let r := d.causes.records[i]
  [bitIf r.flag 0 ||| bitIf r.notified 1 ||| bitIf (isQueued d.link.notices i) 2, byteOf r.count, byteOf r.level]

/-- The 46-byte causes readout. -/
def causesReadout (d : Device) : List Byte := [byteOf d.causes.floor] ++ allCauses.flatMap (causeReadout d)

/-! ## Lanes readout (R99, R113) -/

/-- The code of a lane state. -/
def laneCode : LaneState → Nat
  | .idle => 0
  | .playing => 1
  | .finishing => 2
  | .held => 3
  | .stopped => 4
  | .faulted => 5

/-- The code of a resume state, 0 for none. -/
def resumeCode : Option ResumeState → Nat
  | none => 0
  | some .playing => 1
  | some .finishing => 2

/-- The code of a fault kind, 0 for none. -/
def faultCode : Option FaultKind → Nat
  | none => 0
  | some .undefinedCode => 1
  | some .loop => 2
  | some .stepless => 3
  | some .bounds => 4

/-- The code of a last result. -/
def resultCode : CaptureResult → Nat
  | .none => 0
  | .pass => 1
  | .fail => 2

/-- The three bytes of a loop entry, zero where it is absent. -/
def loopBytes : Option LoopEntry → List Byte
  | some e => be16 e.returnTo ++ [byteOf e.remaining]
  | none => [0, 0, 0]

/-- The 26 bytes of a lane. -/
def laneReadout (d : Device) (i : LaneId) : List Byte :=
  let l := lane d i
  let c := capture d i
  let bottomFirst := l.stack.reverse
  [byteOf (laneCode l.state + 16 * resumeCode l.resume), byteOf (faultCode l.fault),
    bitIf (decide (leadLane d = some i)) 0 ||| bitIf l.note.isSome 1 ||| bitIf c.window.isSome 2 |||
      bitIf c.everFailed 3] ++
  be16 l.position ++ [byteOf l.stack.length] ++ loopBytes bottomFirst[0]? ++ loopBytes bottomFirst[1]? ++
  be16 l.holdLeft ++ [l.vector] ++ be16 l.period ++ [l.park, l.note.getD 0, c.sample, c.window.getD 0] ++
  be16 c.signature.toNat ++ be16 c.count ++ [byteOf (resultCode c.result)]

/-- The 104-byte lanes readout. -/
def lanesReadout (d : Device) : List Byte := allLanes.flatMap (laneReadout d)

/-! ## Job readout (R178) -/

/-- The code of a closing reason, 0 for none. -/
def closingCode : Option ClosingReason → Nat
  | none => 0
  | some .target => 1
  | some .aborted => 2
  | some .exhausted => 3

/-- The code of a phase, 0 for none. -/
def phaseCode : Option Phase → Nat
  | none => 0
  | some .awaitingOff => 1
  | some .dwelling => 2
  | some .awaitingOn => 3

/-- The lead lane's byte, 0xFF for none. -/
def leadByte (d : Device) : Byte :=
  match leadLane d with
  | some i => byteOf i.val
  | none => 0xFF

/-- A rail window, low then high. -/
def windowBytes (w : RailWindow) : List Byte := be16 w.low ++ be16 w.high

/-- The 44-byte settings block in force. -/
def settingsInForceBytes (d : Device) : List Byte :=
  let s := d.power.settings
  s.windows.toList.flatMap windowBytes ++ be16 s.inrush ++ be16 s.run ++ be16Signed s.warmAt ++
    be16Signed s.hotAt ++ be16 d.job.rackLimit ++ [byteOf d.job.period, byteOf d.job.offDwell, byteOf d.causes.floor] ++
    allCauses.map fun i => byteOf d.causes.records[i].level

/-- The 44-byte settings block of the staged set, 0 where absent. -/
def stagedBytes (n : NamedSettings) : List Byte :=
  n.windows.toList.flatMap (fun w => windowBytes (w.getD ⟨0, 0⟩)) ++ be16 (n.inrush.getD 0) ++ be16 (n.run.getD 0) ++
    be16Signed (n.warmAt.getD 0) ++ be16Signed (n.hotAt.getD 0) ++ be16 (n.rackLimit.getD 0) ++
    [byteOf (n.period.getD 0), byteOf (n.offDwell.getD 0), byteOf (n.floor.getD 0)] ++
    n.levels.toList.map fun l => byteOf (l.getD 0)

/-- A presence bit. -/
def presence (isPresent : Bool) (k : Nat) : Nat := if isPresent then 2 ^ k else 0

/-- The staged presence mask (R201). -/
def stagedPresence (n : NamedSettings) : Nat :=
  (List.finRange 4).foldl (fun m r => m + presence n.windows[r].isSome r.val) 0 + presence n.inrush.isSome 4 +
    presence n.run.isSome 5 + presence n.warmAt.isSome 6 + presence n.hotAt.isSome 7 +
    presence n.rackLimit.isSome 8 + presence n.period.isSome 9 + presence n.offDwell.isSome 10 +
    presence n.floor.isSome 11 + allCauses.foldl (fun m i => m + presence n.levels[i].isSome (12 + i.val)) 0

/-- The 119-byte job readout. -/
def jobReadout (d : Device) : List Byte :=
  let j := d.job
  [byteOf (jobCode j.state), bitIf j.jobSet 0 ||| bitIf j.finishDue 1, byteOf (closingCode j.closing),
    byteOf (phaseCode j.phase), byteOf (j.dwell.getD 0)] ++
  be32 j.cycles ++ [byteOf j.retriesUsed] ++ be16 j.rackEvents ++ [byteOf (verdictCode j.verdict), leadByte d] ++
  j.starts.toList.flatMap be16 ++ [byteOf (j.mask.getD 0).toNat] ++ be16 (j.target.getD 0) ++
  [byteOf d.power.settings.riseWindow, byteOf j.retries] ++ settingsInForceBytes d ++
  be32 (stagedPresence j.staged) ++ stagedBytes j.staged

/-! ## Peers readout (R43) -/

/-- The peers: every bay numbered 1 to 15 but the own (R26). -/
def peerList (d : Device) : List StationId := peerSlots.filter fun s => decide (ownSlot d ≠ some s)

/-- The 10 bytes of a roster entry (R201). DESIGN CHOICE: the phantom mark's byte is 1 where it is set and 0 where it is
clear; the layout gives it no code (log entry 23). -/
def rosterBytes (e : RosterEntry) : List Byte :=
  [byteOf e.bay.val, bitIf e.phantom 0] ++ be32 e.start.toNat ++ be32 e.finish.toNat

/-- The code of a peer's last job state, 15 for none (R196). -/
def peerJobCode : Option JobState → Nat
  | some j => jobCode j
  | none => 15

/-- The 7 bytes of a peer. -/
def peerBytes (d : Device) (s : StationId) : List Byte :=
  let p := peer d s
  [byteOf s.val, bitIf p.present 0, byteOf p.silent, byteOf (powerCode p.power), byteOf (peerJobCode p.job),
    byteOf p.window, byteOf (p.budget.getD 0)]

/-- The ring frames, oldest first, each with its frame number. -/
def ringBytes (n : Frame) : Nat → List RingEntry → List Byte
  | _, [] => []
  | k, e :: rest =>
    ringBytes n (k + 1) rest ++
      (be32 (n - BitVec.ofNat 32 k).toNat ++ be16 e.disturbed.toNat ++ be16 e.rising.toNat)

/-- The peers readout. -/
def peersReadout (d : Device) : List Byte :=
  let ps := peerList d
  [byteOf d.view.roster.length, byteOf ps.length, byteOf d.view.budget, byteOf d.view.listening] ++
  d.view.roster.flatMap rosterBytes ++ ps.flatMap (peerBytes d) ++ ringBytes d.link.frame 0 d.view.ring

/-! ## Monitor readout (R65) -/

/-- The code of a band. -/
def bandCode : Band → Nat
  | .cold => 0
  | .warm => 1
  | .hot => 2

/-- The fall count as supplied: in FALLING, and otherwise absent (R65, R193). -/
def fallReadout (p : Power) : Nat := if p.state = .falling then p.fallCount else 0

/-- The 51-byte monitor readout. -/
def monitorReadout (p : Power) : List Byte :=
  let s := p.settings
  [byteOf (powerCode p.state),
    bitIf p.switchClosed 0 ||| bitIf p.pendingRequest 1 ||| bitIf p.temperature.isSome 2] ++
  be32 (p.riseEnd.getD 0).toNat ++ [byteOf (fallReadout p)] ++ p.rails.toList.flatMap (fun r => be16 r.sample) ++
  be16 p.current ++
  [byteOf ((List.finRange 4).foldl (fun m r => m + presence p.rails[r].fullScale r.val) 0 + presence p.currentFull 4)] ++
  p.rails.toList.map (fun r => byteOf r.run) ++ [byteOf p.currentRun] ++ be16Signed (p.temperature.getD 0) ++
  [byteOf (bandCode p.band)] ++ s.windows.toList.flatMap windowBytes ++ be16 s.inrush ++ be16 s.run ++
  be16Signed s.warmAt ++ be16Signed s.hotAt ++ [byteOf s.riseWindow]

end Sys2Proof.Machine
end

