-- ==== Sys2Proof/Machine/Bench.lean ====
section
/-! DEFINITION. The bench command handler: the handling of an item (R181, R182), each command's tests, effect and
answer (R67, R133, R158 to R171, R183 to R192), and the slot-0 message (R180). -/

namespace Sys2Proof.Machine

/-! ## Answers -/

/-- What a command answers: its reason, and a query's data and more-follows mark (R182). -/
structure Answer where
  reason : Reason
  more : Bool := false
  data : List Byte := []
deriving DecidableEq, Repr

/-- A refusal, or an acceptance without data: no state is changed by it. -/
def answering (r : Reason) (d : Device) : Device × Answer := (d, { reason := r })

/-- The reason of an accepted item, by whether a value was clamped (R158). -/
def acceptedAs (clamped : Bool) : Reason := if clamped then .clamped else .accepted

/-- A built reply, offered to the queue: at its tail, or discarded in LISTEN-ONLY (R24, R181). -/
def offerReply (kind seq : Byte) (a : Answer) (d : Device) : Device :=
  if d.link.mode = .listenOnly then d
  else { d with bench := { d.bench with replies := d.bench.replies ++ [⟨kind, seq, a.reason, a.more, a.data⟩] } }

/-- The handling of an item the bay takes, in the order of R181: the queue, the length, the execution. A command is
`body`, which gives the state it leaves and its answer. -/
def handleItem (kind seq : Byte) (lengthOk : Bool) (body : Device → Device × Answer) (d : Device) : Device :=
  if Config.replyQueueLimit ≤ d.bench.replies.length then addError .replyOverflow d
  else if lengthOk then offerReply kind seq (body d).2 (body d).1
  else offerReply kind seq { reason := .range } d

/-- An item whose kind names no command (R181). -/
def itemUnknown (kind seq : Byte) (d : Device) : Device := handleItem kind seq true (answering .unknown) d

/-! ## LOAD (R67) -/

/-- Whether a lane reads pattern memory, now or when resumed (R67). -/
def lanesReading (d : Device) : Bool := allLanes.any fun i => (lane d i).state.reading

/-- R67. -/
def bodyLoad (args : List Byte) (d : Device) : Device × Answer :=
  let first := nat16 args 0
  let count := nat8 args 2
  if count < 1 ∨ 30 < count then answering .range d
  else if Config.patternWords < first + count then answering .range d
  else if lanesReading d then answering .busy d
  else ({ d with pattern := patternWriteAll first (loadWords args) d.pattern }, { reason := .accepted })

/-! ## Setting the job (R158 to R161) -/

/-- R158, R159. -/
def bodyJobLanes (args : List Byte) (d : Device) : Device × Answer :=
  let a := lanesArgs args
  if d.job.state.active then answering .state d
  else if a.mask = 0 ∨ 15 < a.mask then answering .range d
  else if allLanes.any fun i => decide (32767 < a.starts[i]) then answering .range d
  else
    let d1 := setJob { d.job with starts := a.starts, mask := some (BitVec.ofNat 4 a.mask), target := some a.target,
                                  retries := a.retries, cycles := 0, jobSet := true,
                                  state := if d.job.state = .empty then .ready else d.job.state } d
    (setPower { d1.power with settings := { d1.power.settings with riseWindow := a.window } } d1,
      { reason := acceptedAs a.clamped })

/-- Accepted settings staged in a run, and otherwise brought into force at once (R160). -/
def acceptSettings (n : NamedSettings) (d : Device) : Device :=
  if d.job.state.staging then setJob { d.job with staged := stage n d.job.staged } d else inForce n d

/-- R158, R160. -/
def bodyJobRails (args : List Byte) (d : Device) : Device × Answer :=
  let a := railsArgs args
  if (List.finRange 4).any fun r => badWindow a.1.windows[r] then answering .range d
  else (acceptSettings a.1 d, { reason := acceptedAs a.2 })

/-- R158, R160. -/
def bodyJobLimits (args : List Byte) (d : Device) : Device × Answer :=
  let a := limitsArgs args
  (acceptSettings a.1 d, { reason := acceptedAs a.2 })

/-- R158, R160. -/
def bodyJobCauses (args : List Byte) (d : Device) : Device × Answer :=
  let a := causesArgs args
  (acceptSettings a.1 d, { reason := acceptedAs a.2 })

/-! ## Running the job (R162, R166, R167, R171) -/

/-- The job states in which START is accepted (R162). -/
def mayStart (st : JobState) : Bool :=
  match st with
  | .ready => true
  | .concluded => true
  | .aborted => true
  | _ => false

/-- Every capture lane's ever-failed flag cleared (R162). -/
def clearEverFailed (d : Device) : Device :=
  { d with captures := Vector.ofFn fun i => { d.captures[i] with everFailed := false } }

/-- The job as START leaves it on the way to power (R162). -/
def startedJob (j : Job) : Job :=
  { j with state := .powering, cycles := 0, retriesUsed := 0, rackEvents := 0, verdict := .none, closing := none,
           finishDue := false, phase := none, dwell := none }

/-- The effect of START (R162); a board already ON is taken as power ON reached. -/
def startJob (keep : Bool) (d : Device) : Device :=
  let d1 := clearEverFailed (setJob (startedJob d.job) d)
  let d2 := givePower (if keep then d1 else clearTable d1)
  if d2.power.state = .on then jobPowerOn d2 else d2

/-- R162. -/
def bodyStart (args : List Byte) (d : Device) : Device × Answer :=
  if mayStart d.job.state then (startJob (byteAt args 0 != 0) d, { reason := .accepted })
  else answering .state d

/-- R166. -/
def bodyPause (d : Device) : Device × Answer :=
  if d.job.state = .running then
    (giveLanesAndTest .hold (setJob { d.job with state := .paused } d), { reason := .accepted })
  else answering .state d

/-- R167. -/
def bodyResume (d : Device) : Device × Answer :=
  if d.job.state = .paused then
    if d.job.finishDue then (closingTest (giveResume (enterClosing .target d)), { reason := .accepted })
    else (giveResume (setJob { d.job with state := .running } d), { reason := .accepted })
  else answering .state d

/-- The closing reason an ABORT leaves (R171). -/
def abortReason (c : Option ClosingReason) : ClosingReason :=
  if c = some .exhausted then .exhausted else .aborted

/-- The effect of ABORT (R171), with the test that the entry to CLOSING, the lanes' reports and power OFF reached
bring (R172). -/
def abortJob (d : Device) : Device :=
  let d1 :=
    if d.job.state = .closing then setJob { d.job with closing := some (abortReason d.job.closing) } d
    else enterClosing (abortReason d.job.closing) d
  closingTest (requestOff (giveLanes .stop d1))

/-- R171. -/
def bodyAbort (d : Device) : Device × Answer :=
  if d.job.state.active then (abortJob d, { reason := .accepted }) else answering .state d

/-! ## Power, the table and the causes (R133, R153, R183, R186 to R189) -/

/-- R186. An argument that is neither on nor off is refused before the job state is tested. -/
def bodyPower (args : List Byte) (d : Device) : Device × Answer :=
  if 1 < nat8 args 0 then answering .range d
  else if d.job.state.active then answering .state d
  else if nat8 args 0 = 1 then (givePower d, { reason := .accepted })
  else (givePowerOff d, { reason := .accepted })

/-- R187. -/
def bodyClearTable (d : Device) : Device × Answer :=
  if d.job.state.active then answering .state d else (clearTable d, { reason := .accepted })

/-- The record of a serial. -/
def recordOf (serial : Nat) (table : List SuspectRecord) : Option SuspectRecord :=
  table.find? fun r => decide (r.serial = serial)

/-- The pin of the record of a serial, set or cleared. -/
def setPin (serial : Nat) (pinned : Bool) (d : Device) : Device :=
  setEngine { d.engine with table := d.engine.table.map fun r =>
    if r.serial = serial then { r with pinned := pinned } else r } d

/-- R133, R188. -/
def bodyPin (args : List Byte) (d : Device) : Device × Answer :=
  match recordOf (nat32 args 0) d.engine.table with
  | none => answering .range d
  | some r =>
    if r.pinned then answering .accepted d
    else if Config.pinLimit ≤ pinnedCount d.engine.table then answering .range d
    else (setPin (nat32 args 0) true d, { reason := .accepted })

/-- R133, R188. -/
def bodyUnpin (args : List Byte) (d : Device) : Device × Answer :=
  match recordOf (nat32 args 0) d.engine.table with
  | none => answering .range d
  | some _ => (setPin (nat32 args 0) false d, { reason := .accepted })

/-- A cause record as after cold start, apart from its level (R153). -/
def clearedRecord (r : CauseRecord) : CauseRecord := { r with flag := false, count := 0, notified := false }

/-- The cause records with those of a mask cleared (R153). -/
def clearedCauses (m : CauseSet) (u : CauseUnit) : CauseUnit :=
  let records := Vector.ofFn (fun i => if isQueued m i then clearedRecord u.records[i] else u.records[i])
  { u with records := records }

/-- The causes of a mask cleared, and their queued notices withdrawn (R153). -/
def clearCauses (m : CauseSet) (d : Device) : Device :=
  { d with
    causes := clearedCauses m d.causes,
    link := { d.link with notices := d.link.notices &&& ~~~m } }

/-- R153, R189: places of the mask that name no cause are ignored. -/
def bodyClearCauses (args : List Byte) (d : Device) : Device × Answer :=
  (clearCauses (BitVec.ofNat 16 (nat16 args 0)) d, { reason := .accepted })

/-- R183. -/
def bodyReplyLimit (args : List Byte) (d : Device) : Device × Answer :=
  ({ d with bench := { d.bench with limit := (clamp 8 64 (nat8 args 0)).1 } },
    { reason := acceptedAs (clamp 8 64 (nat8 args 0)).2 })

/-! ## Queries (R184, R190, R191) -/

/-- The data bytes a reply may carry (R184). -/
def dataRoom (d : Device) : Nat := d.bench.limit - 6

/-- A readout cut from a start offset (R184). -/
def cut (readout : List Byte) (offset : Nat) (d : Device) : Device × Answer :=
  (d, { reason := .accepted, more := decide (offset + dataRoom d < readout.length),
        data := (readout.drop offset).take (dataRoom d) })

/-- The records from an index onward, each with its index, as many as a number. -/
def recordsFrom (table : List SuspectRecord) (first count : Nat) : List Byte :=
  (((table.drop first).take count).zipIdx first).flatMap fun p => recordReadout p.2 p.1

/-- R141, R191. -/
def bodyQueryTable (args : List Byte) (d : Device) : Device × Answer :=
  let first := nat8 args 0
  let fit := dataRoom d / 28
  if d.engine.table.length ≤ first then (d, { reason := .accepted })
  else if fit = 0 then answering .range d
  else (d, { reason := .accepted, more := decide (first + fit < d.engine.table.length),
             data := recordsFrom d.engine.table first fit })

/-- An answer that carries a whole readout where it fits the reply limit, and is refused otherwise (R191, R201). -/
def wholeReadout (readout : List Byte) (d : Device) : Device × Answer :=
  if readout.length ≤ dataRoom d then (d, { reason := .accepted, data := readout }) else answering .range d

/-- The readout of a record's snapshot, or the short one where none is attached (R142, R201). -/
def snapshotOf (g : Engine) (r : SuspectRecord) : List Byte :=
  match r.snapshot with
  | none => noSnapshotReadout r.serial
  | some k =>
    match g.pool[k] with
    | .attached c => snapshotReadout r.serial k c
    | _ => noSnapshotReadout r.serial

/-- R142, R191, R201. -/
def bodyQuerySnapshot (args : List Byte) (d : Device) : Device × Answer :=
  match d.engine.table[nat8 args 0]? with
  | none => answering .range d
  | some r => wholeReadout (snapshotOf d.engine r) d

/-! ## Warm restart (R192) -/

/-- The job across a warm restart (R156, R177). -/
def Job.restarted (j : Job) : Job :=
  { j with state := if j.jobSet then .ready else .empty, staged := NamedSettings.none, closing := none,
           finishDue := false, phase := none, dwell := none }

/-- A warm restart of every block (the table of R192). -/
def warmRestart (d : Device) : Device :=
  { d with
    link := d.link.restarted, power := d.power.restarted,
    lanes := Vector.ofFn fun i => (lane d i).restarted,
    captures := Vector.ofFn fun i => (capture d i).restarted,
    engine := d.engine.restarted, job := d.job.restarted, bench := Bench.cold }

/-- R192. -/
def bodyRestart (d : Device) : Device × Answer := (warmRestart d, { reason := .accepted })

/-! ## The command items, by kind (R198) -/

/-- Whether an item carries as many argument bytes as its kind calls for (R181, R198). -/
def lengthIs (n : Nat) (args : List Byte) : Bool := args.length == n

def itemLoad (seq : Byte) (args : List Byte) (d : Device) : Device :=
  handleItem 0x01 seq (loadLengthOk args) (bodyLoad args) d
def itemJobLanes (seq : Byte) (args : List Byte) (d : Device) : Device :=
  handleItem 0x02 seq (lengthIs 13 args) (bodyJobLanes args) d
def itemJobRails (seq : Byte) (args : List Byte) (d : Device) : Device :=
  handleItem 0x03 seq (lengthIs 21 args) (bodyJobRails args) d
def itemJobLimits (seq : Byte) (args : List Byte) (d : Device) : Device :=
  handleItem 0x04 seq (lengthIs 9 args) (bodyJobLimits args) d
def itemJobCauses (seq : Byte) (args : List Byte) (d : Device) : Device :=
  handleItem 0x05 seq (lengthIs 18 args) (bodyJobCauses args) d
def itemStart (seq : Byte) (args : List Byte) (d : Device) : Device :=
  handleItem 0x06 seq (lengthIs 1 args) (bodyStart args) d
def itemPause (seq : Byte) (args : List Byte) (d : Device) : Device :=
  handleItem 0x07 seq (lengthIs 0 args) bodyPause d
def itemResume (seq : Byte) (args : List Byte) (d : Device) : Device :=
  handleItem 0x08 seq (lengthIs 0 args) bodyResume d
def itemAbort (seq : Byte) (args : List Byte) (d : Device) : Device :=
  handleItem 0x09 seq (lengthIs 0 args) bodyAbort d
def itemPower (seq : Byte) (args : List Byte) (d : Device) : Device :=
  handleItem 0x0A seq (lengthIs 1 args) (bodyPower args) d
def itemClearTable (seq : Byte) (args : List Byte) (d : Device) : Device :=
  handleItem 0x0B seq (lengthIs 0 args) bodyClearTable d
def itemPin (seq : Byte) (args : List Byte) (d : Device) : Device :=
  handleItem 0x0C seq (lengthIs 4 args) (bodyPin args) d
def itemUnpin (seq : Byte) (args : List Byte) (d : Device) : Device :=
  handleItem 0x0D seq (lengthIs 4 args) (bodyUnpin args) d
def itemQueryHeader (seq : Byte) (args : List Byte) (d : Device) : Device :=
  handleItem 0x0E seq (lengthIs 2 args) (fun x => cut (headerReadout x.engine) (nat16 args 0) x) d
def itemQueryTable (seq : Byte) (args : List Byte) (d : Device) : Device :=
  handleItem 0x0F seq (lengthIs 1 args) (bodyQueryTable args) d
def itemQuerySnapshot (seq : Byte) (args : List Byte) (d : Device) : Device :=
  handleItem 0x10 seq (lengthIs 1 args) (bodyQuerySnapshot args) d
def itemQueryCauses (seq : Byte) (args : List Byte) (d : Device) : Device :=
  handleItem 0x11 seq (lengthIs 2 args) (fun x => cut (causesReadout x) (nat16 args 0) x) d
def itemClearCauses (seq : Byte) (args : List Byte) (d : Device) : Device :=
  handleItem 0x12 seq (lengthIs 2 args) (bodyClearCauses args) d
def itemQueryLanes (seq : Byte) (args : List Byte) (d : Device) : Device :=
  handleItem 0x13 seq (lengthIs 2 args) (fun x => cut (lanesReadout x) (nat16 args 0) x) d
def itemQueryJob (seq : Byte) (args : List Byte) (d : Device) : Device :=
  handleItem 0x14 seq (lengthIs 2 args) (fun x => cut (jobReadout x) (nat16 args 0) x) d
def itemQueryPeers (seq : Byte) (args : List Byte) (d : Device) : Device :=
  handleItem 0x15 seq (lengthIs 2 args) (fun x => cut (peersReadout x) (nat16 args 0) x) d
def itemQueryMonitor (seq : Byte) (args : List Byte) (d : Device) : Device :=
  handleItem 0x16 seq (lengthIs 2 args) (fun x => cut (monitorReadout x.power) (nat16 args 0) x) d
def itemReplyLimit (seq : Byte) (args : List Byte) (d : Device) : Device :=
  handleItem 0x17 seq (lengthIs 1 args) (bodyReplyLimit args) d
def itemRestart (seq : Byte) (args : List Byte) (d : Device) : Device :=
  handleItem 0x18 seq (lengthIs 0 args) bodyRestart d

/-- An item by its kind byte; a kind that names no command is answered UNKNOWN (R181, R197, R198). -/
def itemByKind (kind seq : Byte) (args : List Byte) (d : Device) : Device :=
  match kind.toNat with
  | 0x01 => itemLoad seq args d
  | 0x02 => itemJobLanes seq args d
  | 0x03 => itemJobRails seq args d
  | 0x04 => itemJobLimits seq args d
  | 0x05 => itemJobCauses seq args d
  | 0x06 => itemStart seq args d
  | 0x07 => itemPause seq args d
  | 0x08 => itemResume seq args d
  | 0x09 => itemAbort seq args d
  | 0x0A => itemPower seq args d
  | 0x0B => itemClearTable seq args d
  | 0x0C => itemPin seq args d
  | 0x0D => itemUnpin seq args d
  | 0x0E => itemQueryHeader seq args d
  | 0x0F => itemQueryTable seq args d
  | 0x10 => itemQuerySnapshot seq args d
  | 0x11 => itemQueryCauses seq args d
  | 0x12 => itemClearCauses seq args d
  | 0x13 => itemQueryLanes seq args d
  | 0x14 => itemQueryJob seq args d
  | 0x15 => itemQueryPeers seq args d
  | 0x16 => itemQueryMonitor seq args d
  | 0x17 => itemReplyLimit seq args d
  | 0x18 => itemRestart seq args d
  | _ => itemUnknown kind seq d

/-! ## The message (R13 to R15, R180) -/

/-- An item of a good message, in slot s (R15): command items that this bay takes are executed, and items addressed
to other bays are passed over (R180). -/
def routeItem (s : StationId) (d : Device) (item : Item) : Device :=
  match item with
  | .command c => if takesItem d c then itemByKind c.kind c.seq c.args d else d
  | other => routePeerItem s d other

/-- What a block does of its own between two items (R51, R87, R180). -/
def blockEvent (d : Device) : BlockEvent → Device
  | .step i pins => stepExpiry i (presentPins i pins d)
  | .sample channel reading => sampleChannel channel reading d

/-- The items of a slot-0 message in order, each executed whole, with what the blocks do between one and the next
(R15, R180). -/
def commandItems : List Item → List (List BlockEvent) → Device → Device
  | [], _, d => d
  | [item], _, d => routeItem 0 d item
  | item :: rest, between, d =>
    commandItems rest between.tail ((between.headD []).foldl blockEvent (routeItem 0 d item))

/-- The items of a good message of slot s (R15, R180): a peer's are taken all together, the bench's one by one. -/
def takeItems (s : StationId) (items : List Item) (between : List (List BlockEvent)) (d : Device) : Device :=
  if s = 0 then commandItems items between d else items.foldl (routeItem s) d

/-- The awaited bytes of slot s's message have arrived (R13 to R15): the good outcome comes before the items
(R27). -/
def completeMessage (s : StationId) (length count : Nat) (bs : List Byte) (between : List (List BlockEvent))
    (d : Device) : Device :=
  match judgeMessage s length count bs with
  | .error k => discard k s d
  | .ok items => takeItems s items between (goodOutcome s (setReception .done d))

/-- The message event: without effect where no message is awaited, or while bytes are still missing (R11 to R13). -/
def messageEvent (bs : List Byte) (view : MessageView) (d : Device) : Device :=
  match receivingSlot d, d.link.reception with
  | some s, .awaiting length count =>
    if length + 2 ≤ bs.length then completeMessage s length count bs view.between { d with pins := view.pins } else d
  | _, _ => d

end Sys2Proof.Machine
end

