-- ==== Sys2Proof/Machine/Commands.lean ====
section
/-! DEFINITION. The meanings of the bench's command items (R180, R181): each is one item that this bay takes, with
its sequence number and its argument bytes. -/

namespace Sys2Proof.Machine

/-- UNKNOWN_COMMAND (R181): an item whose kind names no command is answered UNKNOWN. An item is what its kind makes
it, so one of a known kind sent by this row is handled as that kind's. -/
def execUnknownCommand (kind seq : Byte) (args : List Byte) (s : State) : Host.Outcome State Fault Refusal :=
  onDevice (itemByKind kind seq args) s

/-- LOAD (R67, R185). -/
def execLoad (seq : Byte) (args : List Byte) (s : State) : Host.Outcome State Fault Refusal :=
  onDevice (itemLoad seq args) s

/-- JOB_LANES (R158, R159). -/
def execJobLanes (seq : Byte) (args : List Byte) (s : State) : Host.Outcome State Fault Refusal :=
  onDevice (itemJobLanes seq args) s

/-- JOB_RAILS (R158, R160, R161). -/
def execJobRails (seq : Byte) (args : List Byte) (s : State) : Host.Outcome State Fault Refusal :=
  onDevice (itemJobRails seq args) s

/-- JOB_LIMITS (R158, R160, R161). -/
def execJobLimits (seq : Byte) (args : List Byte) (s : State) : Host.Outcome State Fault Refusal :=
  onDevice (itemJobLimits seq args) s

/-- JOB_CAUSES (R158, R160, R161). -/
def execJobCauses (seq : Byte) (args : List Byte) (s : State) : Host.Outcome State Fault Refusal :=
  onDevice (itemJobCauses seq args) s

/-- START (R162), with the capture pins for the lanes that step at the command itself. -/
def execStart (seq : Byte) (args : List Byte) (pins : CapturePins) (s : State) :
    Host.Outcome State Fault Refusal :=
  onDevice (fun d => itemStart seq args (presentAllPins pins d)) s

/-- PAUSE (R166). -/
def execPause (seq : Byte) (args : List Byte) (s : State) : Host.Outcome State Fault Refusal :=
  onDevice (itemPause seq args) s

/-- RESUME (R167), with the capture pins for the lanes that step at the command itself. -/
def execResume (seq : Byte) (args : List Byte) (pins : CapturePins) (s : State) :
    Host.Outcome State Fault Refusal :=
  onDevice (fun d => itemResume seq args (presentAllPins pins d)) s

/-- ABORT (R171). -/
def execAbort (seq : Byte) (args : List Byte) (s : State) : Host.Outcome State Fault Refusal :=
  onDevice (itemAbort seq args) s

/-- POWER (R186). -/
def execPower (seq : Byte) (args : List Byte) (s : State) : Host.Outcome State Fault Refusal :=
  onDevice (itemPower seq args) s

/-- CLEAR_TABLE (R187). -/
def execClearTable (seq : Byte) (args : List Byte) (s : State) : Host.Outcome State Fault Refusal :=
  onDevice (itemClearTable seq args) s

/-- PIN (R133, R188). -/
def execPin (seq : Byte) (args : List Byte) (s : State) : Host.Outcome State Fault Refusal :=
  onDevice (itemPin seq args) s

/-- UNPIN (R133, R188). -/
def execUnpin (seq : Byte) (args : List Byte) (s : State) : Host.Outcome State Fault Refusal :=
  onDevice (itemUnpin seq args) s

/-- QUERY_HEADER (R143, R184). -/
def execQueryHeader (seq : Byte) (args : List Byte) (s : State) : Host.Outcome State Fault Refusal :=
  onDevice (itemQueryHeader seq args) s

/-- QUERY_TABLE (R141, R191). -/
def execQueryTable (seq : Byte) (args : List Byte) (s : State) : Host.Outcome State Fault Refusal :=
  onDevice (itemQueryTable seq args) s

/-- QUERY_SNAPSHOT (R142, R191). -/
def execQuerySnapshot (seq : Byte) (args : List Byte) (s : State) : Host.Outcome State Fault Refusal :=
  onDevice (itemQuerySnapshot seq args) s

/-- QUERY_CAUSES (R155, R184). -/
def execQueryCauses (seq : Byte) (args : List Byte) (s : State) : Host.Outcome State Fault Refusal :=
  onDevice (itemQueryCauses seq args) s

/-- CLEAR_CAUSES (R153, R189). -/
def execClearCauses (seq : Byte) (args : List Byte) (s : State) : Host.Outcome State Fault Refusal :=
  onDevice (itemClearCauses seq args) s

/-- QUERY_LANES (R99, R113, R184). -/
def execQueryLanes (seq : Byte) (args : List Byte) (s : State) : Host.Outcome State Fault Refusal :=
  onDevice (itemQueryLanes seq args) s

/-- QUERY_JOB (R178, R184). -/
def execQueryJob (seq : Byte) (args : List Byte) (s : State) : Host.Outcome State Fault Refusal :=
  onDevice (itemQueryJob seq args) s

/-- QUERY_PEERS (R43, R184). -/
def execQueryPeers (seq : Byte) (args : List Byte) (s : State) : Host.Outcome State Fault Refusal :=
  onDevice (itemQueryPeers seq args) s

/-- QUERY_MONITOR (R65, R184). -/
def execQueryMonitor (seq : Byte) (args : List Byte) (s : State) : Host.Outcome State Fault Refusal :=
  onDevice (itemQueryMonitor seq args) s

/-- REPLY_LIMIT (R183). -/
def execReplyLimit (seq : Byte) (args : List Byte) (s : State) : Host.Outcome State Fault Refusal :=
  onDevice (itemReplyLimit seq args) s

/-- RESTART (R192). -/
def execRestart (seq : Byte) (args : List Byte) (s : State) : Host.Outcome State Fault Refusal :=
  onDevice (itemRestart seq args) s

end Sys2Proof.Machine
end

