-- ==== Sys2Proof/Machine/Mark.lean ====
section
/-! DEFINITION. The accepted mark (R3): the end of a frame, and each block's handling of the new one. -/

namespace Sys2Proof.Machine

/-- The link controller at an accepted mark: the new frame, its timer and its slot timing (R3), and the DISTURB
entries that expire (R23). -/
def newFrame (seen : Bool) (moment : Nat) (l : Link) : Link :=
  let n := l.frame + 1
  { l with frame := n, cadenceDue := moment + Config.framePeriod, previousMark := some moment, markPulse := seen,
           slot := some 0, reception := .idle, flight := none, begun := false, collided := false,
           disturbs := l.disturbs.filter fun e => e.frame == n || e.frame == n - 1 }

/-- The peer view's handling of a mark, with the own grant handed to the sequencer (R38, R40, R50). -/
def peerMark (d : Device) : Device :=
  let n := d.link.frame
  let v := viewMark (ownSlot d) n d.view
  let d1 := setView v d
  match ownGrantAt (ownSlot d) n v d.view with
  | some e => setPower (ownGrant e d1.power) d1
  | none => d1

/-- The end test of a rise (R55, R56). DESIGN CHOICE: where it passes, the four TRIP opportunities come before power ON
reached and the lane starts that it brings (R163); the manual gives no order (log entry 22). -/
def riseEndTest (d : Device) : Device :=
  match firstOutside d.power with
  | none => jobPowerOn (tripOpportunities (setPower (risen d.power) d))
  | some r => tripWith .riseFail r false (setPower (clearExcursions d.power) d)

/-- The fall count at a mark (R57). -/
def fallMark (d : Device) : Device :=
  let d1 := setPower { clearExcursions d.power with fallCount := d.power.fallCount + 1 } d
  if Config.fallLimit ≤ d.power.fallCount + 1 then fallDone d1 else d1

/-- What the monitor does at a mark by the power state that the mark finds (R55 to R57). -/
def powerMark (d : Device) : Device :=
  match d.power.state with
  | .on => setPower (clearExcursions d.power) (glitchOpportunities d.power d)
  | .rising =>
    if d.power.riseEnd = some d.link.frame then riseEndTest d else setPower (clearExcursions d.power) d
  | .falling => fallMark d
  | .off => setPower (clearExcursions d.power) d
  | .asking => setPower (clearExcursions d.power) d
  | .tripped => setPower (clearExcursions d.power) d

/-- The monitor's handling of a mark: the temperature and the band first (R61). -/
def monitorMark (v : MarkView) (d : Device) : Device := powerMark (readTemperature v.temperature d)

/-- The engine's on-time settles at a mark, and its report to the job that the queue has become empty
(R119, R172). -/
def settleMark (d : Device) : Device :=
  let d1 := settleDue d
  if d.engine.queue ≠ [] ∧ d1.engine.queue = [] then closingTest d1 else d1

/-- The monitor's and the engine's handling of a mark, in the order the world takes (R130). -/
def settleAndMonitor (v : MarkView) (d : Device) : Device :=
  if v.settleFirst then monitorMark v (settleMark d) else settleMark (monitorMark v d)

/-- The blocks' handling of the new frame (R3). The job's dwell countdown is taken before the monitor may begin a
new one, since a dwell ends at the d-th mark after it began (R169). -/
def handleMark (v : MarkView) (d : Device) : Device :=
  let d1 := tallyShift (dwellMark (peerMark d))
  if v.offersFirst then settleAndMonitor v (offerAll d1) else offerAll (settleAndMonitor v d1)

/-- An accepted mark at a moment, whether a seen edge or the controller's own expiry (R3). -/
def acceptMark (seen : Bool) (moment : Nat) (v : MarkView) (d : Device) : Device :=
  let d1 := endFrame v.lineActive (atMoment moment { d with pins := v.pins })
  handleMark v (setLink (newFrame seen moment d1.link) d1)

/-! ## The cadence (R2 to R7) -/

/-- A muted controller at an expiry after the pulse line has stayed high for 128 ms (R7). -/
def recoverMuted (lineHigh : Nat) (d : Device) : Device :=
  if d.link.mode = .muted ∧ Config.mutedRecovery ≤ lineHigh then setLink { d.link with mode := .normal } d else d

/-- The pulse driven at an expiry in NORMAL mode (R2). -/
def drivePulse (moment : Nat) (d : Device) : Device :=
  if d.link.mode = .normal then setLink { d.link with driveUntil := moment + Config.pulseLow } d else d

/-- The expiry of the cadence timer (R2, R7). -/
def cadenceExpiry (lineHigh : Nat) (v : MarkView) (d : Device) : Device :=
  let moment := max d.now d.link.cadenceDue
  acceptMark false moment v (drivePulse moment (recoverMuted lineHigh d))

/-- The moment of an edge that comes some time after the last accepted mark, or after cold start. -/
def edgeMoment (sinceMark : Nat) (d : Device) : Nat := d.link.previousMark.getD 0 + sinceMark

/-- A leading edge on the pulse line (R2, R3, R4): the controller's own while it drives the line, early within
15.0 ms of the last accepted mark, and otherwise accepted. -/
def candidateEdge (sinceMark : Nat) (v : MarkView) (d : Device) : Device :=
  let moment := edgeMoment sinceMark d
  if moment < d.link.driveUntil then d
  else if d.link.previousMark = none ∨ Config.earlyLimit ≤ sinceMark then acceptMark true moment v d
  else addError .earlyMark (atMoment moment d)

/-- A controller in NORMAL becomes MUTED and drives neither line (R6): a message under way stops, and its items
stay queued. -/
def mute (l : Link) : Link :=
  if l.mode = .normal then { l with mode := .muted, flight := none, driveUntil := 0 } else l

/-- The pulse line low for more than 200 µs (R6); the pulse of the last accepted mark is then not clean (R7). -/
def stuckLow (d : Device) : Device :=
  let d1 := raiseCause .cadenceFault d
  setLink (mute { d1.link with markPulse := false }) d1

/-- The release that makes an accepted mark clean (R7). -/
def cleanRelease (d : Device) : Device :=
  if d.link.markPulse then
    setLink { d.link with markPulse := false,
                          mode := if d.link.mode = .muted then .normal else d.link.mode } d
  else d

end Sys2Proof.Machine
end

