-- ==== Sys2Proof/Machine/Events.lean ====
section
/-! DEFINITION. The meanings of the sixteen events of the table: what the world presents to the controller. -/

namespace Sys2Proof.Machine

/-- COLD_START (R5, R9): every block takes its cold-start state, and the straps are read. -/
def execColdStart (bay : BitVec 4) (budget : BitVec 2) (s : State) : Host.Outcome State Fault Refusal :=
  onDevice (fun _ => Device.cold bay budget) s

/-- CADENCE_TIMER_EXPIRY (R2, R3, R7). -/
def execCadenceTimerExpiry (lineHigh : Nat) (view : MarkView) (s : State) : Host.Outcome State Fault Refusal :=
  onDevice (cadenceExpiry lineHigh view) s

/-- CANDIDATE_MARK (R2, R3, R4). -/
def execCandidateMark (sinceMark : Nat) (view : MarkView) (s : State) : Host.Outcome State Fault Refusal :=
  onDevice (candidateEdge sinceMark view) s

/-- PULSE_LINE_STUCK_LOW (R6). -/
def execPulseLineStuckLow (s : State) : Host.Outcome State Fault Refusal := onDevice stuckLow s

/-- CLEAN_MARK_RELEASE (R7). -/
def execCleanMarkRelease (s : State) : Host.Outcome State Fault Refusal := onDevice cleanRelease s

/-- HEADER_RECEIVED (R10, R11). -/
def execHeaderReceived (b0 b1 b2 b3 : Byte) (s : State) : Host.Outcome State Fault Refusal :=
  onDevice (headerEvent b0 b1 b2 b3) s

/-- MESSAGE_COMPLETE (R13 to R15, R180). -/
def execMessageComplete (bytes : List Byte) (view : MessageView) (s : State) : Host.Outcome State Fault Refusal :=
  onDevice (messageEvent bytes view) s

/-- LINE_IDLE_TIMEOUT (R12). -/
def execLineIdleTimeout (s : State) : Host.Outcome State Fault Refusal := onDevice truncate s

/-- FRAMING_ERROR (R12). -/
def execFramingError (s : State) : Host.Outcome State Fault Refusal := onDevice truncate s

/-- SLOT_END (R8, R12, R15). -/
def execSlotEnd (lineActive : Bool) (s : State) : Host.Outcome State Fault Refusal :=
  onDevice (slotEnd lineActive) s

/-- OWN_SLOT_TRANSMIT (R16, R21). -/
def execOwnSlotTransmit (s : State) : Host.Outcome State Fault Refusal := onDevice beginMessage s

/-- COLLISION (R17). -/
def execCollision (s : State) : Host.Outcome State Fault Refusal := onDevice collide s

/-- TRANSMISSION_CLEAN (R18). -/
def execTransmissionClean (s : State) : Host.Outcome State Fault Refusal := onDevice transmissionEnd s

/-- CONVERTER_SAMPLE (R51 to R54, R57). -/
def execConverterSample (channel : Channel) (reading : Nat) (s : State) : Host.Outcome State Fault Refusal :=
  onDevice (sampleChannel channel reading) s

/-- STEP_TIMER_EXPIRY (R87): the lane's capture pins are as presented. -/
def execStepTimerExpiry (lane : LaneId) (pins : Byte) (s : State) : Host.Outcome State Fault Refusal :=
  onDevice (fun d => stepExpiry lane (presentPins lane pins d)) s

/-- DWELL_END (R169). -/
def execDwellEnd (s : State) : Host.Outcome State Fault Refusal := onDevice dwellEnd s

end Sys2Proof.Machine
end

