-- ==== Sys2Proof/Machine/Dispatch.lean ====
section
/-! DEFINITION. One arm for each command of the table. -/

namespace Sys2Proof.Machine

def exec (i : Instr) (s : State) : Host.Outcome State Fault Refusal :=
  match i with
  | .coldStart bay budget => Sys2Proof.Machine.execColdStart bay budget s
  | .cadenceTimerExpiry lineHigh view => Sys2Proof.Machine.execCadenceTimerExpiry lineHigh view s
  | .candidateMark sinceMark view => Sys2Proof.Machine.execCandidateMark sinceMark view s
  | .pulseLineStuckLow => Sys2Proof.Machine.execPulseLineStuckLow s
  | .cleanMarkRelease => Sys2Proof.Machine.execCleanMarkRelease s
  | .headerReceived b0 b1 b2 b3 => Sys2Proof.Machine.execHeaderReceived b0 b1 b2 b3 s
  | .messageComplete bytes view => Sys2Proof.Machine.execMessageComplete bytes view s
  | .lineIdleTimeout => Sys2Proof.Machine.execLineIdleTimeout s
  | .framingError => Sys2Proof.Machine.execFramingError s
  | .slotEnd lineActive => Sys2Proof.Machine.execSlotEnd lineActive s
  | .ownSlotTransmit => Sys2Proof.Machine.execOwnSlotTransmit s
  | .collision => Sys2Proof.Machine.execCollision s
  | .transmissionClean => Sys2Proof.Machine.execTransmissionClean s
  | .converterSample channel reading => Sys2Proof.Machine.execConverterSample channel reading s
  | .stepTimerExpiry lane pins => Sys2Proof.Machine.execStepTimerExpiry lane pins s
  | .dwellEnd => Sys2Proof.Machine.execDwellEnd s
  | .unknownCommand kind seq args => Sys2Proof.Machine.execUnknownCommand kind seq args s
  | .load seq args => Sys2Proof.Machine.execLoad seq args s
  | .jobLanes seq args => Sys2Proof.Machine.execJobLanes seq args s
  | .jobRails seq args => Sys2Proof.Machine.execJobRails seq args s
  | .jobLimits seq args => Sys2Proof.Machine.execJobLimits seq args s
  | .jobCauses seq args => Sys2Proof.Machine.execJobCauses seq args s
  | .start seq args pins => Sys2Proof.Machine.execStart seq args pins s
  | .pause seq args => Sys2Proof.Machine.execPause seq args s
  | .resume seq args pins => Sys2Proof.Machine.execResume seq args pins s
  | .abort seq args => Sys2Proof.Machine.execAbort seq args s
  | .power seq args => Sys2Proof.Machine.execPower seq args s
  | .clearTable seq args => Sys2Proof.Machine.execClearTable seq args s
  | .pin seq args => Sys2Proof.Machine.execPin seq args s
  | .unpin seq args => Sys2Proof.Machine.execUnpin seq args s
  | .queryHeader seq args => Sys2Proof.Machine.execQueryHeader seq args s
  | .queryTable seq args => Sys2Proof.Machine.execQueryTable seq args s
  | .querySnapshot seq args => Sys2Proof.Machine.execQuerySnapshot seq args s
  | .queryCauses seq args => Sys2Proof.Machine.execQueryCauses seq args s
  | .clearCauses seq args => Sys2Proof.Machine.execClearCauses seq args s
  | .queryLanes seq args => Sys2Proof.Machine.execQueryLanes seq args s
  | .queryJob seq args => Sys2Proof.Machine.execQueryJob seq args s
  | .queryPeers seq args => Sys2Proof.Machine.execQueryPeers seq args s
  | .queryMonitor seq args => Sys2Proof.Machine.execQueryMonitor seq args s
  | .replyLimit seq args => Sys2Proof.Machine.execReplyLimit seq args s
  | .restart seq args => Sys2Proof.Machine.execRestart seq args s

end Sys2Proof.Machine
end

