-- ==== Sys2Proof/Machine/Step.lean ====
section
/-! DEFINITION. The step of the machine over its queue of waiting commands. -/

namespace Sys2Proof.Machine

/-- One period of the 10 MHz clock passes with nothing to take (DESIGN CHOICE, log entry 2). -/
def State.idle (s : State) : State := { s with now := s.now + 1 }

/-- The command at the front of the queue is taken, with the queue's rest; on an empty queue a clock period
passes. -/
def step (s : State) : Host.Outcome State Fault Refusal :=
  match s.pending with
  | [] => .next s.idle
  | c :: rest => exec c { s with pending := rest }

/-- A command put at the front of the queue. -/
def State.withCommand (s : State) (c : Instr) : State := { s with pending := c :: s.pending }

/-- The command that a word spells, put at the front of the queue; the table gives no row any bits, so no word
spells one. -/
def State.withFetchWord (s : State) (nbits w : Nat) : State :=
  match decodeTableWord nbits w with
  | some c => s.withCommand c
  | none => s

end Sys2Proof.Machine
end

