-- ==== Sys2Proof/Safety.lean ====
section
/-! DEFINITION. The terms that claims about the machine use: how a command item is answered, what is left alone,
and the invariants that the manual's rules give the block. -/

namespace Sys2Proof.Safety

open Sys2Proof.Machine

/-! ## Answers to command items (R24, R181, R182) -/

/-- The reply queue has room for one more reply (R181). -/
abbrev hasRoom (s : State) : Prop := s.bench.replies.length < 8

/-- The machine with one more reply at the tail of its queue; in LISTEN-ONLY the reply is discarded (R24, R181). -/
def answered (s : State) (kind seq : Byte) (reason : Reason) (more : Bool) (data : List Byte) : State :=
  { s with bench := { s.bench with
      replies := if s.link.mode = .listenOnly then s.bench.replies
                 else s.bench.replies ++ [⟨kind, seq, reason, more, data⟩] } }

/-- A reply without data, as every answer but a query's has (R182). -/
def answeredBare (s : State) (kind seq : Byte) (reason : Reason) : State := answered s kind seq reason false []

/-- The bytes of a readout from an offset onward, as many as the reply limit less 6 allows (R184). -/
def cutOf (readout : List Byte) (offset limit : Nat) : List Byte := (readout.drop offset).take (limit - 6)

/-- The bytes of the command item that an item to a target makes (R196). -/
def commandItemBytes (target seq kind : Byte) (args : List Byte) : List Byte :=
  [0x10, target, seq, kind, byteOf args.length] ++ args

/-- A payload with its checksum, high byte first (R13, R194). -/
def withChecksum (payload : List Byte) : List Byte := payload ++ be16 (crc16 payload).toNat

/-! ## Command items as rows (R181, R198) -/

/-- The kind, the sequence number and the argument bytes of a row that is a command item of a known kind; none for
an event and for an item of unknown kind (R198). -/
def itemParts : Instr → Option (Byte × Byte × List Byte)
  | .load q a => some (0x01, q, a)
  | .jobLanes q a => some (0x02, q, a)
  | .jobRails q a => some (0x03, q, a)
  | .jobLimits q a => some (0x04, q, a)
  | .jobCauses q a => some (0x05, q, a)
  | .start q a _ => some (0x06, q, a)
  | .pause q a => some (0x07, q, a)
  | .resume q a _ => some (0x08, q, a)
  | .abort q a => some (0x09, q, a)
  | .power q a => some (0x0A, q, a)
  | .clearTable q a => some (0x0B, q, a)
  | .pin q a => some (0x0C, q, a)
  | .unpin q a => some (0x0D, q, a)
  | .queryHeader q a => some (0x0E, q, a)
  | .queryTable q a => some (0x0F, q, a)
  | .querySnapshot q a => some (0x10, q, a)
  | .queryCauses q a => some (0x11, q, a)
  | .clearCauses q a => some (0x12, q, a)
  | .queryLanes q a => some (0x13, q, a)
  | .queryJob q a => some (0x14, q, a)
  | .queryPeers q a => some (0x15, q, a)
  | .queryMonitor q a => some (0x16, q, a)
  | .replyLimit q a => some (0x17, q, a)
  | .restart q a => some (0x18, q, a)
  | .unknownCommand _ _ _ => none
  | .coldStart _ _ => none
  | .cadenceTimerExpiry _ _ => none
  | .candidateMark _ _ => none
  | .pulseLineStuckLow => none
  | .cleanMarkRelease => none
  | .headerReceived _ _ _ _ => none
  | .messageComplete _ _ => none
  | .lineIdleTimeout => none
  | .framingError => none
  | .slotEnd _ => none
  | .ownSlotTransmit => none
  | .collision => none
  | .transmissionClean => none
  | .converterSample _ _ => none
  | .stepTimerExpiry _ _ => none
  | .dwellEnd => none

/-- The argument lengths that R198 gives the kinds 0x01 to 0x18, in order of the kinds; LOAD's stands in
`rightLength`. -/
def fixedLengths : List Nat := [0, 0, 13, 21, 9, 18, 1, 0, 0, 0, 1, 0, 4, 4, 2, 1, 1, 2, 2, 2, 2, 2, 2, 1, 0]

/-- Whether an item of a known kind carries as many argument bytes as its kind calls for; a LOAD of fewer than three
carries no word count (R181, R198). -/
def rightLength (kind : Byte) (args : List Byte) : Bool :=
  if kind = 0x01 then decide (3 ≤ args.length ∧ args.length = 3 + 2 * nat8 args 2)
  else decide (args.length = fixedLengths.getD kind.toNat 0)

/-- The row that a command item of a kind is (R198); an item whose kind names no command is UNKNOWN_COMMAND. -/
def commandOf (kind seq : Byte) (args : List Byte) (pins : CapturePins) : Instr :=
  match kind.toNat with
  | 0x01 => .load seq args
  | 0x02 => .jobLanes seq args
  | 0x03 => .jobRails seq args
  | 0x04 => .jobLimits seq args
  | 0x05 => .jobCauses seq args
  | 0x06 => .start seq args pins
  | 0x07 => .pause seq args
  | 0x08 => .resume seq args pins
  | 0x09 => .abort seq args
  | 0x0A => .power seq args
  | 0x0B => .clearTable seq args
  | 0x0C => .pin seq args
  | 0x0D => .unpin seq args
  | 0x0E => .queryHeader seq args
  | 0x0F => .queryTable seq args
  | 0x10 => .querySnapshot seq args
  | 0x11 => .queryCauses seq args
  | 0x12 => .clearCauses seq args
  | 0x13 => .queryLanes seq args
  | 0x14 => .queryJob seq args
  | 0x15 => .queryPeers seq args
  | 0x16 => .queryMonitor seq args
  | 0x17 => .replyLimit seq args
  | 0x18 => .restart seq args
  | _ => .unknownCommand kind seq args

/-- The levels at the capture pins as a command leaves them: a START and a RESUME present theirs (R86, R93). -/
def presented (c : Instr) (before : CapturePins) : CapturePins :=
  match c with
  | .start _ _ pins => pins
  | .resume _ _ pins => pins
  | _ => before

/-! ## Readout layouts (R201) -/

/-- The code of a board power state in a readout (R196, R201). -/
def stateCode : PowerState → Nat
  | .off => 0
  | .asking => 1
  | .rising => 2
  | .on => 3
  | .falling => 4
  | .tripped => 5

/-- The code of a job state in a readout (R196, R201). -/
def jobStateCode : JobState → Nat
  | .empty => 0
  | .ready => 1
  | .powering => 2
  | .running => 3
  | .paused => 4
  | .cycling => 5
  | .recovering => 6
  | .closing => 7
  | .concluded => 8
  | .aborted => 9

/-- The code of a verdict (R196, R201). -/
def verdictNumber : Verdict → Nat
  | .none => 0
  | .pass => 1
  | .marginal => 2
  | .inconclusive => 3
  | .incomplete => 4
  | .fail => 5

/-- The code of a reply's reason (R196). -/
def reasonNumber : Reason → Nat
  | .accepted => 0
  | .clamped => 1
  | .busy => 2
  | .range => 3
  | .state => 4
  | .unknown => 5

/-- The bytes are the record readout of a record at an index (R131, R201); numbers are held to the width of their
fields, here and below. -/
def recordFields (index : Nat) (r : SuspectRecord) (b : List Byte) : Prop :=
  b.length = 28 ∧ nat8 b 0 = index % 256 ∧ nat32 b 1 = r.serial % 4294967296 ∧
    nat8 b 5 = (match r.locus with
        | .strobe _ _ _ => 0
        | .signature _ _ => 1
        | .glitch _ => 2
        | .trip _ => 3) + 4 * (if r.latch then 2 else if 256 ≤ r.score then 1 else 0) +
      16 * (if 16 * r.hits < 15 * r.opportunities then 1 else 0) + 32 * (if r.latch then 1 else 0) +
      64 * (if r.pinned then 1 else 0) + 128 * (if r.snapshot.isSome then 1 else 0) ∧
    (match r.locus with
      | .strobe lane pin tag => nat8 b 6 = lane.val ∧ nat8 b 7 = pin.val ∧ byteAt b 8 = tag
      | .signature lane tag => nat8 b 6 = lane.val ∧ nat8 b 7 = 255 ∧ byteAt b 8 = tag
      | .glitch rail => nat8 b 6 = rail.val ∧ nat8 b 7 = 0 ∧ nat8 b 8 = 0
      | .trip rail => nat8 b 6 = rail.val ∧ nat8 b 7 = 0 ∧ nat8 b 8 = 0) ∧
    nat32 b 9 = r.firstStamp.toNat ∧ nat32 b 13 = r.lastStamp.toNat ∧ nat8 b 17 = r.lastCount % 256 ∧
    nat16 b 18 = r.score % 65536 ∧ nat16 b 20 = r.hits % 65536 ∧ nat16 b 22 = r.opportunities % 65536 ∧
    nat8 b 24 = r.cold % 256 ∧ nat8 b 25 = r.warm % 256 ∧ nat8 b 26 = r.hot % 256 ∧ nat8 b 27 = 0

/-- The bytes are the readout of snapshot k, attached to the record of a serial (R201). -/
def snapshotFields (serial : Nat) (k : Fin 8) (c : Conditions) (b : List Byte) : Prop :=
  b.length = 30 ∧ nat32 b 0 = serial % 4294967296 ∧ nat8 b 4 = 1 ∧ nat8 b 5 = k.val ∧ nat32 b 6 = c.stamp.toNat ∧
    (∀ r : RailId, nat16 b (10 + 2 * r.val) = c.rails[r] % 65536) ∧ nat16 b 18 = c.current % 65536 ∧
    nat16 b 20 = (c.temperature % 65536).toNat ∧ ∀ i : LaneId, nat16 b (22 + 2 * i.val) = c.positions[i] % 65536

/-- The bytes are a settings block of these settings (R201). -/
def settingsFields (windows : RailId → RailWindow) (inrush run : Nat) (warm hot : Int)
    (rackLimit period offDwell floor : Nat) (level : Fin 15 → Nat) (b : List Byte) : Prop :=
  b.length = 44 ∧
    (∀ r : RailId, nat16 b (4 * r.val) = (windows r).low % 65536 ∧
      nat16 b (4 * r.val + 2) = (windows r).high % 65536) ∧
    nat16 b 16 = inrush % 65536 ∧ nat16 b 18 = run % 65536 ∧ nat16 b 20 = (warm % 65536).toNat ∧
    nat16 b 22 = (hot % 65536).toNat ∧ nat16 b 24 = rackLimit % 65536 ∧ nat8 b 26 = period % 256 ∧
    nat8 b 27 = offDwell % 256 ∧ nat8 b 28 = floor % 256 ∧ ∀ i : Fin 15, nat8 b (29 + i.val) = level i % 256

/-! ## Commands one after another -/

/-- What a command leaves; the state itself where it has no next one. -/
def afterCommand (s : State) (c : Instr) : State :=
  match exec c s with
  | .next t => t
  | .fault _ => s
  | .refused _ => s

/-- The row of the table that an event between two items is (R180). -/
def eventOf : BlockEvent → Instr
  | .step i pins => .stepTimerExpiry i pins
  | .sample channel reading => .converterSample channel reading

/-! ## Reception -/

/-- The controller receives slot k: slot k is being timed and is not the own slot (R8). -/
abbrev receives (s : State) (k : StationId) : Prop := s.link.slot = some k ∧ ownSlot s.toDevice ≠ some k

/-- A peer record after an outcome that is not good: the silent count rises by 1 and stops at 8, and a peer that
reaches 8 while PRESENT becomes ABSENT with the fields of R26 (R27). -/
def unheard (p : Peer) : Peer :=
  if p.silent = 7 ∧ p.present = true then ⟨false, 8, .off, none, 64, none⟩
  else { p with silent := if p.silent < 8 then p.silent + 1 else p.silent }

/-- The message of slot k has been discarded for a kind: the kind is in the summary, nothing more of the slot is
received, and where slot k is a peer's, the slot is noted blind and the peer counted unheard. Nothing else of the
link and of the peer view changes (R11, R12, R15, R27). -/
def discarded (s t : State) (k : StationId) (kind : ErrorSet) : Prop :=
  t.link = { s.link with errors := s.link.errors ||| kind, reception := .done } ∧
    t.view = { s.view with peers := t.view.peers, notes := t.view.notes } ∧
    (∀ b : StationId, b ≠ k → t.view.peers[b] = s.view.peers[b] ∧ t.view.notes[b] = s.view.notes[b]) ∧
    (k = 0 → t.view = s.view) ∧
    (k ≠ 0 → t.view.peers[k] = unheard s.view.peers[k] ∧ t.view.notes[k] = .blind)

/-- The state s with slot k's usable header taken, whose data bits are h (R11): discarded as SLOT-MISMATCH, OVERLONG
or UNKNOWN-ITEM, a good empty message, or the payload awaited. -/
def headerTaken (s t : State) (k : StationId) (h : HeaderData) : Prop :=
  let sender : Nat := (h.setWidth 8).toNat / 16
  let format : Nat := (h.setWidth 8).toNat % 16
  let length : Nat := ((h >>> 8).setWidth 8).toNat
  let count : Nat := ((h >>> 16).setWidth 8).toNat
  t = { s with link := t.link, view := t.view } ∧
    (sender ≠ k.val → discarded s t k 0x10) ∧
    (sender = k.val → 80 < length → discarded s t k 0x20) ∧
    (sender = k.val → length ≤ 80 → (format ≠ 1 ∨ length = 0 ∧ count ≠ 0) → discarded s t k 0x40) ∧
    (sender = k.val → format = 1 → length = 0 → count = 0 →
      t.link = { s.link with reception := .done } ∧ t.view = { s.view with peers := t.view.peers } ∧
        (k = 0 → t.view = s.view) ∧ (∀ b : StationId, b ≠ k → t.view.peers[b] = s.view.peers[b]) ∧
        (k ≠ 0 → t.view.peers[k] = { s.view.peers[k] with present := true, silent := 0 })) ∧
    (sender = k.val → format = 1 → 1 ≤ length → length ≤ 80 →
      t.link = { s.link with reception := .awaiting length count } ∧ t.view = s.view)

/-- The slot that is timed after slot k; none after slot 15 (R8). -/
def slotBehind (k : StationId) : Option StationId := if h : k.val + 1 < 16 then some ⟨k.val + 1, h⟩ else none

/-! ## The own message -/

/-- The notice of the cause at place i goes before that of the cause at place j: the higher level first, and of equal
levels the lower cause number (R150). -/
abbrev goesBefore (u : CauseUnit) (i j : Fin 15) : Prop :=
  u.records[j].level < u.records[i].level ∨ (u.records[j].level = u.records[i].level ∧ i < j)

/-- The bytes of a message's items (R21 to R23, R150, R182, R196): PRESENT with the bay's state as it stands, the
DISTURB items, the ASK, the replies taken from the head of the queue, and the notices of some causes, in order. -/
def itemBytes (d : Device) (f : Flight) (notices : List (Fin 15)) : List Byte :=
  [0x01, byteOf (stateCode d.power.state + 16 * jobStateCode d.job.state),
    byteOf (verdictNumber d.job.verdict + 16 * d.link.budgetStrap.toNat),
    byteOf (((List.finRange 4).map fun i =>
      if (lane d i).state = .playing ∨ (lane d i).state = .finishing then 2 ^ i.val else 0).sum)] ++
  be16 d.link.errors.toNat ++ [0, 0] ++
  (f.disturbs.flatMap fun e => [0x02, byteOf (frameAge d.link.frame e.frame),
    byteOf ((if e.rail then 1 else 0) + if e.burst then 2 else 0), 0]) ++
  (f.ask.toList.flatMap fun w => [0x03, byteOf w, 0, 0]) ++
  ((d.bench.replies.take f.replies).flatMap fun r =>
    [0x05, byteOf (6 + r.data.length), r.kind, r.seq, byteOf (reasonNumber r.reason), if r.more then 1 else 0] ++
      r.data) ++
  notices.flatMap fun i =>
    [0x04, byteOf (i.val + 1), byteOf d.causes.records[i].level, byteOf d.causes.records[i].count, 0, 0]

/-! ## Causes -/

/-- The record of a cause after one occurrence of it (R146). -/
def happened (r : CauseRecord) : CauseRecord :=
  { flag := true, level := r.level, count := if r.flag then min 255 (r.count + 1) else 1,
    notified := r.flag && r.notified }

/-- The cause unit after one occurrence of the cause at a place (R146): no other record changes, and no level and
not the floor. -/
def occurred (before after : CauseUnit) (i : Fin 15) : Prop :=
  after.floor = before.floor ∧ (∀ j : Fin 15, j ≠ i → after.records[j] = before.records[j]) ∧
    after.records[i] = happened before.records[i]

/-! ## The accepted mark -/

/-- A command that makes an accepted mark, with what the controller sees at it: an expiry of the cadence timer, or a
leading edge that is neither the controller's own nor early (R2, R3, R4). -/
def marks (s : State) (view : MarkView) (c : Instr) : Prop :=
  (∃ high : Nat, c = .cadenceTimerExpiry high view) ∨
    ∃ since : Nat, c = .candidateMark since view ∧ s.link.driveUntil ≤ s.link.previousMark.getD 0 + since ∧
      (s.link.previousMark = none ∨ 150000 ≤ since)

/-- A message of slot k, or the line activity before its header, is cut short where the slot being timed ends
(R12). -/
abbrev cutShort (s : State) (active : Bool) (k : StationId) : Prop :=
  receives s k ∧ s.link.reception ≠ .done ∧ (s.link.reception = .idle → active = true)

/-- Slot k has an outcome other than good as an accepted mark ends the frame: the slot being timed where its message is
not done, and every later one, which the mark leaves without its time (R8, R15, R27; that these are silent is log entry
8). -/
abbrev endsUnheard (s : State) (k : StationId) : Prop :=
  ownSlot s.toDevice ≠ some k ∧
    ∃ c : StationId, s.link.slot = some c ∧ (c < k ∨ (c = k ∧ s.link.reception ≠ .done))

/-- The block as the end of a frame, at an accepted mark at a moment, hands the next one to the blocks, from a link
controller l as the mark finds it. A message cut short is TRUNCATED and its slot blind, and the slots without their
time count against their peers; nothing else of the peer view changes, so the grant pass finds the roster, the ring and
the notes of the ended frame. The DISTURB entries of the new frame and of the one before stay, the collision run is
updated, and a third collision in a row empties the queues (R3, R12, R17, R19, R23, R27). -/
def frameEnded (s : State) (l : Link) (view : MarkView) (moment : Nat) (d : Device) : Prop :=
  let third : Prop := s.link.collided = true ∧ 2 ≤ s.link.collisionRun
  d = { s.toDevice with link := d.link, view := d.view, causes := d.causes, bench := d.bench, pins := view.pins,
                        now := max s.now moment } ∧
    d.link = { l with
      frame := s.link.frame + 1, cadenceDue := moment + 160000, previousMark := some moment, slot := some 0,
      reception := .idle, flight := none, begun := false, collided := false,
      collisionRun := if s.link.collided then s.link.collisionRun + 1 else s.link.collisionRun,
      mode := if third then .listenOnly else l.mode,
      errors := if ∃ k : StationId, cutShort s view.lineActive k then s.link.errors ||| 0x8 else s.link.errors,
      disturbs := d.link.disturbs, notices := d.link.notices } ∧
    d.view = { s.view with peers := d.view.peers, notes := d.view.notes } ∧
    (∀ k : StationId,
      d.view.peers[k] = (if k ≠ 0 ∧ endsUnheard s k then unheard s.view.peers[k] else s.view.peers[k]) ∧
      d.view.notes[k] = if k ≠ 0 ∧ cutShort s view.lineActive k then .blind else s.view.notes[k]) ∧
    (third → occurred s.causes d.causes 12 ∧ d.link.disturbs = [] ∧ d.link.notices = 0 ∧
      d.bench = { s.bench with replies := [] }) ∧
    (¬third → d.causes = s.causes ∧ d.link.notices = s.link.notices ∧ d.bench = s.bench ∧
      d.link.disturbs =
        s.link.disturbs.filter fun e => decide (e.frame = s.link.frame + 1 ∨ e.frame = s.link.frame))

/-- What the blocks make of the new frame (R40, R61, R111, R119, R148, R169). The world takes two of the orders: the
cause unit's offers before or after the monitor and the engine, and of these either first (R130, R148). That the peer
view, the dwell countdown and the tally shift come before those, in this order, is the model's reading (DEDUCED, log
entry 4). -/
def frameHandled (view : MarkView) (d : Device) : Device :=
  let begun := tallyShift (dwellMark (peerMark d))
  match view.offersFirst, view.settleFirst with
  | false, false => offerAll (settleMark (powerMark (readTemperature view.temperature begun)))
  | false, true => offerAll (powerMark (readTemperature view.temperature (settleMark begun)))
  | true, false => settleMark (powerMark (readTemperature view.temperature (offerAll begun)))
  | true, true => powerMark (readTemperature view.temperature (settleMark (offerAll begun)))

/-- The link controller and the peer view as an accepted mark at a moment leaves them, from a link mode that holds at
the mark and with or without line activity in the slot being timed (R3, R12, R19, R31, R39, R40). -/
def markTaken (s t : State) (active : Bool) (moment : Nat) (mode : LinkMode) : Prop :=
  t.link.frame = s.link.frame + 1 ∧ t.link.cadenceDue = moment + 160000 ∧ t.link.previousMark = some moment ∧
    t.link.slot = some 0 ∧ t.link.reception = .idle ∧ t.link.flight = none ∧ t.link.begun = false ∧
    t.link.errors = (if ∃ k : StationId, cutShort s active k then s.link.errors ||| 0x8 else s.link.errors) ∧
    t.link.mode = (if s.link.collided = true ∧ 2 ≤ s.link.collisionRun then .listenOnly else mode) ∧
    t.view.listening = s.view.listening - 1 ∧ (∀ b : StationId, t.view.notes[b] = .quiet) ∧
    t.view.ring.drop 1 = s.view.ring.take 4 ∧ t.link.bay = s.link.bay ∧ t.link.budgetStrap = s.link.budgetStrap ∧
    t.view.budget = s.view.budget ∧ t.pattern = s.pattern ∧ t.job.starts = s.job.starts ∧ t.job.mask = s.job.mask ∧
    t.job.target = s.job.target ∧ t.job.retries = s.job.retries ∧ t.bench.limit = s.bench.limit ∧
    t.pending = s.pending

/-! ## Lanes and records -/

/-- A code fault of lane i (R83, R94, R109): FAULTED with its kind where it stands, the window abandoned, CODE-FAULT
raised. -/
def codeFaulted (d d' : Device) (i : LaneId) (k : FaultKind) : Prop :=
  d' = { d with
    lanes := d.lanes.set i { lane d i with state := .faulted, fault := some k, holdLeft := 0, timer := .stopped },
    captures := d.captures.set i { capture d i with window := none },
    causes := d'.causes, link := { d.link with notices := d'.link.notices } } ∧ occurred d.causes d'.causes 3

/-- A record credited with one opportunity: its five counters are halved first where the opportunities stand at
65,535 (R126, R129). -/
def credited (r : SuspectRecord) : SuspectRecord :=
  let half := fun n : Nat => if 65535 ≤ r.opportunities then n / 2 else n
  { r with opportunities := half r.opportunities + 1, hits := half r.hits, cold := half r.cold, warm := half r.warm,
           hot := half r.hot }

/-! ## Settings and power requests -/

/-- A rail window or a current limit is among named settings (R46, R161). -/
abbrev namesWindowOrLimit (n : NamedSettings) : Prop :=
  (∃ r : RailId, (n.windows[r]).isSome = true) ∨ n.inrush.isSome = true ∨ n.run.isSome = true

/-- The notice floor or a cause level is among named settings (R161). -/
abbrev namesFloorOrLevel (n : NamedSettings) : Prop :=
  n.floor.isSome = true ∨ ∃ i : Fin 15, (n.levels[i]).isSome = true

/-- A cause passes the notice test under a floor (R148). -/
abbrev passesFloor (floor : Nat) (r : CauseRecord) : Prop :=
  r.flag = true ∧ r.notified = false ∧ 1 ≤ r.level ∧ floor ≤ r.level

/-- Named settings have come into force between two devices, and the staged set is empty: where a rail window or a
current limit is among them every run is 0, and where the floor or a level is, the notice of each cause that then
passes is queued, but in LISTEN-ONLY (R46, R63, R152, R161). -/
def tookSettings (n : NamedSettings) (d d' : Device) : Prop :=
  let warm : Int := n.warmAt.getD d.power.settings.warmAt
  d'.job.staged = NamedSettings.none ∧ d'.job.rackLimit = n.rackLimit.getD d.job.rackLimit ∧
    d'.job.period = n.period.getD d.job.period ∧ d'.job.offDwell = n.offDwell.getD d.job.offDwell ∧
    (∀ r : RailId, d'.power.settings.windows[r] = (n.windows[r]).getD d.power.settings.windows[r]) ∧
    d'.power.settings = { d.power.settings with
      windows := d'.power.settings.windows, inrush := n.inrush.getD d.power.settings.inrush,
      run := n.run.getD d.power.settings.run, warmAt := warm,
      hotAt := if n.warmAt.isSome || n.hotAt.isSome then max (n.hotAt.getD d.power.settings.hotAt) (warm + 8)
               else d.power.settings.hotAt } ∧
    d'.causes.floor = n.floor.getD d.causes.floor ∧
    (∀ i : Fin 15, d'.causes.records[i].level = (n.levels[i]).getD d.causes.records[i].level) ∧
    (namesWindowOrLimit n → d'.power.currentRun = 0 ∧
      ∀ r : RailId, d'.power.rails[r].run = 0 ∧ d'.power.rails[r].first = none) ∧
    (namesFloorOrLevel n → d.link.mode ≠ .listenOnly → ∀ i : Fin 15,
      passesFloor d'.causes.floor { d.causes.records[i] with level := d'.causes.records[i].level } →
      d'.link.notices.getLsbD (i.val + 1) = true)

/-- Named settings have come into force between two devices, and nothing else has changed but that the staged set is
empty (R46, R63, R152, R161). -/
def settingsInForce (n : NamedSettings) (d d' : Device) : Prop :=
  tookSettings n d d' ∧
    d' = { d with
      power := { d.power with
        settings := d'.power.settings, rails := d'.power.rails, currentRun := d'.power.currentRun },
      job := { d.job with
        staged := NamedSettings.none, rackLimit := d'.job.rackLimit, period := d'.job.period,
        offDwell := d'.job.offDwell },
      causes := d'.causes, link := { d.link with notices := d'.link.notices } } ∧
    (∀ r : RailId, d'.power.rails[r] =
      if namesWindowOrLimit n then { d.power.rails[r] with run := 0, first := none } else d.power.rails[r]) ∧
    (¬namesWindowOrLimit n → d'.power.currentRun = d.power.currentRun) ∧
    (∀ i : Fin 15, d'.causes.records[i] = { d.causes.records[i] with level := d'.causes.records[i].level }) ∧
    (namesFloorOrLevel n → d.link.mode ≠ .listenOnly → ∀ i : Fin 15, d'.link.notices.getLsbD (i.val + 1) =
      (d.link.notices.getLsbD (i.val + 1) || decide (passesFloor d'.causes.floor d'.causes.records[i]))) ∧
    (¬namesFloorOrLevel n ∨ d.link.mode = .listenOnly → d'.link.notices = d.link.notices)

/-- The job has entered CLOSING for a reason, with the staged set in force; the test at the entry comes after
(R161, R164, R170, R172). -/
def closingEntered (reason : ClosingReason) (d d' : Device) : Prop :=
  settingsInForce d.job.staged
    { d with job := { d.job with state := .closing, closing := some reason, finishDue := false, phase := none,
                                 dwell := none } } d'

/-! ## Requests to the lanes -/

/-- A lane stopped by a request, or by a resume without power (R91, R93). -/
def stoppedBy (l : Lane) : Lane := { l with state := .stopped, resume := none, holdLeft := 0, timer := .stopped }

/-- A lane after a finish, hold or stop request, or power leaving ON, by the tables of R89, R91 and R92; the time left
is counted from the moment of the latest timed event (log entry 2). -/
def requested (r : LaneRequest) (now : Nat) (l : Lane) : Lane :=
  let going : Prop := l.state = .playing ∨ l.state = .finishing
  let left : Nat := match l.timer with
    | .running due => due - now
    | .frozen left => left
    | .stopped => 0
  match r with
  | .finish =>
    if l.state = .playing then { l with state := .finishing }
    else if l.state = .held then { l with resume := some .finishing } else l
  | .hold =>
    if going then
      { l with state := .held, resume := some (if l.state = .playing then .playing else .finishing),
               timer := .frozen left }
    else l
  | .stop => if going ∨ l.state = .held then stoppedBy l else l
  | .powerLeft => if going then stoppedBy l else l

/-- The block with a request taken by each lane; the window of a lane that it stops is abandoned (R89, R91, R92). -/
def lanesAsked (r : LaneRequest) (d : Device) : Device :=
  { d with
    lanes := Vector.ofFn fun i => requested r d.now (lane d i),
    captures := Vector.ofFn fun i =>
      if (requested r d.now (lane d i)).state = .stopped ∧ (lane d i).state ≠ .stopped then
        { capture d i with window := none }
      else capture d i }

/-- A lane as a start sets it, before its first step event (R86). -/
def startedLane (start : Nat) (state : LaneState) (l : Lane) : Lane :=
  { l with state := state, position := start, stack := [], holdLeft := 0, vector := 0, period := 100, park := 0,
           note := none, fault := none, resume := none, timer := .stopped }

/-- The block with lane i as a start leaves it in a state, its window abandoned (R86). -/
def laneStarted (i : LaneId) (state : LaneState) (d : Device) : Device :=
  { d with
    lanes := d.lanes.set i (startedLane d.job.starts[i] state (lane d i)),
    captures := d.captures.set i { capture d i with window := none } }

/-- The lead lane (R96): the lowest-numbered lane of the enable mask, and none while the job is EMPTY. -/
abbrev leads (d : Device) (i : LaneId) : Prop :=
  d.job.state ≠ .empty ∧ (d.job.mask.getD 0).getLsbD i.val = true ∧
    ∀ j : LaneId, j < i → (d.job.mask.getD 0).getLsbD j.val = false

/-! ## Trips -/

/-- The job has taken a trip, by the states of R170; the closing test comes last where it enters CLOSING or is there
(R172). -/
def tripTaken (d d' : Device) : Prop :=
  let st : JobState := d.job.state
  let stopped : Device := lanesAsked .stop d
  (st = .empty ∨ st = .ready ∨ st = .concluded ∨ st = .aborted → d' = d) ∧
    (st = .closing → d' = closingTest d) ∧
    (st = .paused → d.job.finishDue = true → ∃ e : Device, closingEntered .target stopped e ∧ d' = closingTest e) ∧
    (st = .powering ∨ st = .running ∨ (st = .paused ∧ d.job.finishDue = false) ∨ st = .cycling ∨ st = .recovering →
      (d.job.retriesUsed < d.job.retries → d' = { stopped with
        job := { d.job with state := .recovering, retriesUsed := d.job.retriesUsed + 1, phase := some .dwelling,
                            dwell := some d.job.offDwell } }) ∧
      (d.job.retries ≤ d.job.retriesUsed →
        ∃ e : Device, closingEntered .exhausted stopped e ∧ d' = closingTest e))

/-- The power state after a power-off request (R48). -/
def offAsked : PowerState → PowerState
  | .off => .off
  | .asking => .off
  | .rising => .falling
  | .on => .falling
  | .falling => .falling
  | .tripped => .off

/-! ## Events in the settling queue -/

/-- The settling queue holds an entry of a locus and a stamp. -/
def queued (g : Engine) (l : Locus) (f : Frame) : Prop := ∃ e ∈ g.queue, e.locus = l ∧ e.stamp = f

/-- The DISTURB queue holds an entry for a frame with the source RAIL. -/
def railRequested (q : List Disturb) (f : Frame) : Prop := ∃ e ∈ q, e.frame = f ∧ e.rail = true

/-! ## Invariants -/

/-- The bay switch is closed exactly while the board power state is RISING or ON (R47), and hot_at is at least
warm_at + 8 (R63). -/
abbrev PowerInv (p : Power) : Prop :=
  p.switchClosed = p.state.closed ∧ p.settings.warmAt + 8 ≤ p.settings.hotAt

/-- The counters of a record (R115, R126). -/
abbrev RecordInv (r : SuspectRecord) : Prop :=
  r.cold ≤ r.hits ∧ r.warm ≤ r.hits ∧ r.hot ≤ r.hits ∧ r.hits ≤ r.opportunities ∧ r.opportunities ≤ 65535 ∧
    r.score ≤ 65535

/-- The repeat counts of the settling queue (R116) and the counters of the table (R126). -/
abbrev CountersInv (g : Engine) : Prop :=
  (∀ e ∈ g.queue, 1 ≤ e.occurrences ∧ e.occurrences ≤ 255) ∧ ∀ r ∈ g.table, RecordInv r

/-- At most 32 entries, no two of one locus and stamp (R116); at most 48 records, no two of one locus, in rising
order of their serials, which begin at 1 and stand below the next serial (R115, R136). -/
abbrev TableInv (g : Engine) : Prop :=
  g.queue.length ≤ 32 ∧ g.queue.Pairwise (fun a b => ¬(a.locus = b.locus ∧ a.stamp = b.stamp)) ∧
    g.table.length ≤ 48 ∧ g.table.Pairwise (fun a b => a.locus ≠ b.locus ∧ a.serial < b.serial) ∧
    1 ≤ g.nextSerial ∧ ∀ r ∈ g.table, 1 ≤ r.serial ∧ r.serial < g.nextSerial

/-- The settling queue is in stamp order, and no entry is stamped earlier than two frames before the current one
(R116). -/
abbrev QueueInv (d : Device) : Prop :=
  (∀ e ∈ d.engine.queue, frameAge d.link.frame e.stamp ≤ 2) ∧
    d.engine.queue.Pairwise fun a b => frameAge d.link.frame b.stamp ≤ frameAge d.link.frame a.stamp

/-- Every rail run under way began in the current frame or the one before, as R54 says of a glitch run, which lasts at
most 300 µs. -/
abbrev runsAreShort (d : Device) : Prop :=
  ∀ r : RailId, d.power.rails[r].run ≠ 0 →
    frameAge d.link.frame (d.power.rails[r].first.getD d.link.frame) ≤ 1

/-- How many queue entries hold snapshot k. -/
def entriesHolding (g : Engine) (k : Fin 8) : Nat := g.queue.countP fun e => decide (e.snapshot = some k)

/-- How many records hold snapshot k. -/
def recordsHolding (g : Engine) (k : Fin 8) : Nat := g.table.countP fun r => decide (r.snapshot = some k)

/-- Each snapshot is free and held by nothing, linked and held by exactly one entry, or attached and held by exactly
one record (R134). -/
def snapshotAccounted (g : Engine) (k : Fin 8) : Bool :=
  match g.pool[k] with
  | .free => decide (entriesHolding g k = 0 ∧ recordsHolding g k = 0)
  | .linked _ => decide (entriesHolding g k = 1 ∧ recordsHolding g k = 0)
  | .attached _ => decide (entriesHolding g k = 0 ∧ recordsHolding g k = 1)

/-- The whole pool is accounted for (R134). -/
abbrev PoolInv (g : Engine) : Prop := ∀ k : Fin 8, snapshotAccounted g k = true

/-- At most 8 records are pinned (R133). -/
abbrev PinInv (g : Engine) : Prop := pinnedCount g.table ≤ 8

/-- A cause's count is 0 exactly when its flag is clear, and never exceeds 255 (R146). -/
abbrev CauseInv (u : CauseUnit) : Prop :=
  ∀ i : Fin 15, (u.records[i].count = 0 ↔ u.records[i].flag = false) ∧ u.records[i].count ≤ 255

/-- The notice floor and the levels of the causes, in force and staged, are from 0 to 7 (R144, R157). -/
abbrev LevelInv (d : Device) : Prop :=
  d.causes.floor ≤ 7 ∧ d.job.staged.floor.getD 0 ≤ 7 ∧
    ∀ i : Fin 15, d.causes.records[i].level ≤ 7 ∧ d.job.staged.levels[i].getD 0 ≤ 7

/-- The ranges of a lane's elements (R84), its loop stack (R73), and its step timer by its state (R84, R88). -/
abbrev LaneInv (l : Lane) : Prop :=
  l.position ≤ 32768 ∧ l.stack.length ≤ 2 ∧
    (∀ e ∈ l.stack, 1 ≤ e.remaining ∧ e.remaining ≤ 255 ∧ e.returnTo ≤ 32768) ∧ l.holdLeft ≤ 4094 ∧
    2 ≤ l.period ∧ l.period ≤ 65535 ∧ (l.resume.isSome = true ↔ l.state = .held) ∧
    (l.fault.isSome = true ↔ l.state = .faulted)

/-- Whether a step timer is as the lane state calls for: running in PLAYING and FINISHING, frozen in HELD, and
stopped in IDLE, STOPPED and FAULTED (R84). -/
def timerAgrees (l : Lane) : Bool :=
  match l.timer with
  | .running _ => l.state.going
  | .frozen _ => decide (l.state = .held)
  | .stopped => l.state.ended

/-- The four lanes within their ranges, with lane starts in pattern memory (R157), and a window open only while its
stimulus lane is PLAYING, FINISHING or HELD (R100). -/
abbrev LanesInv (d : Device) : Prop :=
  (∀ i : LaneId, LaneInv (lane d i) ∧ timerAgrees (lane d i) = true ∧ d.job.starts[i] ≤ 32767) ∧
    ∀ i : LaneId, (capture d i).window.isSome = true → (lane d i).state.reading = true

/-- The effective budget between 1 and the strap budget (R29), at most 4 roster entries and one for each bay (R34),
five ring entries (R31), silent counts to 8 and ASK windows from 4 to 64 (R26). -/
abbrev ViewInv (d : Device) : Prop :=
  1 ≤ d.view.budget ∧ d.view.budget ≤ strapBudget d ∧ d.view.roster.length ≤ 4 ∧
    d.view.roster.Pairwise (fun a b => a.bay ≠ b.bay) ∧ d.view.ring.length = 5 ∧
    ∀ b : StationId, (peer d b).silent ≤ 8 ∧ 4 ≤ (peer d b).window ∧ (peer d b).window ≤ 64

/-- A rise window from 4 to 64 frames (R157). -/
abbrev windowOk (w : Nat) : Prop := 4 ≤ w ∧ w ≤ 64

/-- An ASK, where there is one, carries a window from 4 to 64. -/
def askOk (ask : Option Nat) : Bool :=
  match ask with
  | some w => decide (windowOk w)
  | none => true

/-- The window of a frame note, where it has one, is from 4 to 64. -/
def noteOk (n : SlotNote) : Bool :=
  match n with
  | .ask w => decide (windowOk w)
  | .quiet => true
  | .blind => true

/-- Every rise window that an own grant may be made with is from 4 to 64: in force, in flight, and noted (R30,
R157). -/
abbrev WindowInv (d : Device) : Prop :=
  windowOk d.power.settings.riseWindow ∧ (∀ f ∈ d.link.flight, askOk f.ask = true) ∧
    ∀ b : StationId, noteOk d.view.notes[b] = true

/-- An own, granted roster entry that ends at frame e (R34, R38). -/
abbrev ownEntry (d : Device) (e : Frame) (x : RosterEntry) : Prop :=
  ownSlot d = some x.bay ∧ x.phantom = false ∧ x.finish = e

/-- While the state is RISING, the rise ends 1 to 64 frames from now, and the roster holds a granted entry for the
bay itself that ends then (R50). -/
abbrev RiseInv (d : Device) : Prop :=
  d.power.state = .rising →
    ∃ e ∈ d.power.riseEnd, 1 ≤ frameAge e d.link.frame ∧ frameAge e d.link.frame ≤ 64 ∧
      ∃ x ∈ d.view.roster, ownEntry d e x

/-- The reply limit from 8 to 64, at most 8 replies (R179), and no reply longer than 64 bytes (R182). -/
abbrev BenchInv (b : Bench) : Prop :=
  8 ≤ b.limit ∧ b.limit ≤ 64 ∧ b.replies.length ≤ 8 ∧ ∀ r ∈ b.replies, replyLength r ≤ 64

/-- Whether the job is in a run that has not met its target: POWERING, RUNNING, CYCLING or RECOVERING, or PAUSED
with the finish-due mark clear. -/
def underTarget (j : Job) : Bool :=
  match j.state with
  | .powering | .running | .cycling | .recovering => true
  | .paused => !j.finishDue
  | _ => false

/-- With a nonzero cycle target, the cycle count does not exceed it (R159), and stands below it in a run that has not
met it (R164, R165). -/
abbrev TargetInv (j : Job) : Prop :=
  ∀ t ∈ j.target, t ≠ 0 → j.cycles ≤ t ∧ (underTarget j = true → j.cycles < t)

end Sys2Proof.Safety
end

