-- ==== Sys2Proof/Certificates/Slice0/Obligations.lean ====
section
/-! DEFINITION. The statements about the machine. OBLIGATIONS.json gives each one's rule or section of the manual. -/

open Sys2Proof Sys2Proof.Machine Sys2Proof.Safety

/-! ## The step, and every command -/

/-- A step runs the command at the front of the queue, with the queue's rest; with no command waiting, one clock
period passes, which is the model's choice (log entry 2). Every command of the table is taken in every state and leaves
the waiting commands as they stand, which is the model's reading of the table and no rule of the manual (DEDUCED, log
entry 18); of its effect this says nothing. -/
def Obligations.StepRunsFrontCommand : Prop :=
  (∀ (c : Instr) (rest : List Instr) (s : State),
    step { s with pending := c :: rest } = exec c { s with pending := rest }) ∧
  (∀ s : State, s.pending = [] → step s = .next { s with now := s.now + 1 }) ∧
  ∀ (c : Instr) (s : State), ∃ t, exec c s = .next t ∧ t.pending = s.pending

/-! ## Cold start -/

/-- A cold start gives every block the values of the cold-start columns, for every pair of straps, and every word of
pattern memory reads 0x0000 (R66). That the cadence timer is held as the moment of its expiry, 24 ms from the moment
of the cold start, is the model's choice (log entry 2). -/
def Obligations.ColdStartValues : Prop :=
  ∀ (bay : BitVec 4) (budget : BitVec 2) (s : State), ∃ t, exec (.coldStart bay budget) s = .next t ∧
    t.pending = s.pending ∧
    (t.link.bay = bay ∧ t.link.budgetStrap = budget ∧ t.link.frame = 0 ∧ t.link.cadenceDue = t.now + 240000 ∧
      t.link.previousMark = none ∧ t.link.mode = (if bay = 0 then .listenOnly else .normal) ∧ t.link.errors = 0 ∧
      t.link.disturbs = [] ∧ t.link.notices = 0 ∧ t.link.collisionRun = 0 ∧ t.link.slot = none ∧
      t.link.flight = none) ∧
    ((∀ b : StationId, t.view.peers[b] = ⟨false, 8, .off, none, 64, none⟩ ∧ t.view.notes[b] = .quiet) ∧
      t.view.budget = budget.toNat + 1 ∧ t.view.roster = [] ∧ t.view.listening = 66 ∧ t.view.ring.length = 5 ∧
      ∀ e ∈ t.view.ring, e.disturbed = 0 ∧ e.rising = 0) ∧
    (t.power.state = .off ∧ t.power.switchClosed = false ∧ t.power.pendingRequest = false ∧
      t.power.riseEnd = none ∧ t.power.fallCount = 0 ∧ (∀ r : RailId, t.power.rails[r] = ⟨0, false, 0, none, false⟩) ∧
      t.power.current = 0 ∧ t.power.currentFull = false ∧ t.power.currentRun = 0 ∧ t.power.temperature = none ∧
      t.power.band = .cold ∧ (∀ r : RailId, t.power.settings.windows[r] = ⟨0, 16383⟩) ∧
      t.power.settings.inrush = 16383 ∧ t.power.settings.run = 16383 ∧ t.power.settings.warmAt = 110 ∧
      t.power.settings.hotAt = 150 ∧ t.power.settings.riseWindow = 64) ∧
    (∀ a : Nat, patternRead t.pattern a = 0) ∧
    (∀ i : LaneId, (lane t.toDevice i) = ⟨.idle, none, 0, [], 0, 0, 100, .stopped, 0, none, none⟩ ∧
      capture t.toDevice i = ⟨0, none, 0xFFFF, 0, .none, false⟩) ∧
    (t.engine.queue = [] ∧ t.engine.table = [] ∧ (∀ k : Fin 8, t.engine.pool[k] = .free) ∧
      t.engine.nextSerial = 1 ∧ t.engine.rackEvents = 0 ∧ t.engine.overflows = 0 ∧ t.engine.earlySettles = 0 ∧
      t.engine.evictions = 0 ∧ t.engine.tallyNow = ⟨[], false⟩ ∧ t.engine.tallyBefore = ⟨[], false⟩) ∧
    (t.causes.floor = 1 ∧ ∀ i : Fin 15, t.causes.records[i] =
      ⟨false, 0, false, [2, 6, 6, 5, 3, 1, 4, 2, 5, 3, 3, 4, 7, 4, 5].getD i.val 0⟩) ∧
    (t.job.state = .empty ∧ t.job.jobSet = false ∧ t.job.mask = none ∧ t.job.target = none ∧
      (∀ i : LaneId, t.job.starts[i] = 0) ∧ t.job.retries = 0 ∧ t.job.rackLimit = 65535 ∧ t.job.period = 0 ∧
      t.job.offDwell = 8 ∧ t.job.staged = NamedSettings.none ∧ t.job.cycles = 0 ∧ t.job.retriesUsed = 0 ∧
      t.job.rackEvents = 0 ∧ t.job.verdict = .none ∧ t.job.closing = none ∧ t.job.finishDue = false ∧
      t.job.phase = none ∧ t.job.dwell = none) ∧
    t.bench.replies = [] ∧ t.bench.limit = 64

/-! ## The cadence -/

/-- An expiry of the cadence timer, and a leading edge 15.0 ms or more after the last accepted mark or the first one
since cold start, are each an accepted mark: the frame number, the timer, the slot timing, the coincidence ring, the
listening countdown and the frame notes move on, a message the mark cuts short is TRUNCATED and its slot blind, the
collision run is updated, and the blocks then handle the new frame, with the roster, the ring and the notes of the
ended one. An expiry first brings a muted controller back after 128 ms of a high line, and drives the pulse line for
20 µs in NORMAL. The model's choices: timers are held as the moments of their expiry (log entry 2); the peer view, the
dwell countdown and the tally shift come, in this order, before the monitor and the engine (DEDUCED, log entry 4); the
slots that the mark leaves without their time are silent (DEDUCED, log entry 8); and the pulse is driven by the mode
before the frame's end, where the mark itself enters LISTEN-ONLY (DEDUCED, log entry 17). -/
def Obligations.AcceptedMarkBeginsFrame : Prop :=
  (∀ (high : Nat) (view : MarkView) (s : State), ∃ t, exec (.cadenceTimerExpiry high view) s = .next t ∧
    let moment : Nat := max s.now s.link.cadenceDue
    let mode : LinkMode := if s.link.mode = .muted ∧ 1280000 ≤ high then .normal else s.link.mode
    let drive : Nat := if mode = .normal then moment + 200 else s.link.driveUntil
    markTaken s t view.lineActive moment mode ∧ t.link.markPulse = false ∧ t.now = moment ∧
      t.link.driveUntil = drive ∧
      ∃ d : Device, frameEnded s { s.link with mode := mode, markPulse := false, driveUntil := drive } view moment d ∧
        t.toDevice = frameHandled view d) ∧
  ∀ (since : Nat) (view : MarkView) (s : State),
    let moment : Nat := s.link.previousMark.getD 0 + since
    s.link.driveUntil ≤ moment → (s.link.previousMark = none ∨ 150000 ≤ since) →
    ∃ t, exec (.candidateMark since view) s = .next t ∧ markTaken s t view.lineActive moment s.link.mode ∧
      t.link.markPulse = true ∧ t.link.driveUntil = s.link.driveUntil ∧ t.now = max s.now moment ∧
      ∃ d : Device, frameEnded s { s.link with markPulse := true } view moment d ∧
        t.toDevice = frameHandled view d

/-- The board at a mark. An own grant made at it takes ASKING to RISING with the switch closed and the rise end frame
of the grant, and is not used in any other state. In ON each rail without an excursion gains a GLITCH opportunity. At
the rise end frame, four inside rails give ON, four TRIP opportunities and power ON reached, and an outside one a trip
on the lowest of them with RISE-FAIL and no DISTURB, which the job takes by its state. That the four opportunities come
before power ON reached is the model's choice (log entry 22). In FALLING the fall count rises, and at 8 the state is OFF, or ASKING where a request is
pending. Every excursion mark is cleared. -/
def Obligations.MarkMovesTheBoard : Prop :=
  ∀ d : Device,
    let n : Frame := d.link.frame
    let calm : Power := { d.power with
      rails := Vector.ofFn fun r => { d.power.rails[r] with excursion := false } }
    let rested : Power := { d.power with
      rails := Vector.ofFn fun r => { d.power.rails[r] with run := 0, first := none, excursion := false },
      currentRun := 0, riseEnd := none }
    let inside : RailId → Prop := fun r =>
      d.power.settings.windows[r].low ≤ d.power.rails[r].sample ∧
        d.power.rails[r].sample ≤ d.power.settings.windows[r].high
    let granted : RosterEntry → Prop := fun x => x ∈ (viewMark (ownSlot d) n d.view).roster ∧
      ownSlot d = some x.bay ∧ x.phantom = false ∧
      ∀ e ∈ d.view.roster, e.bay = x.bay → frameEarlier e.finish n = true
    (peerMark d = { d with view := viewMark (ownSlot d) n d.view, power := (peerMark d).power } ∧
      (∀ x : RosterEntry, granted x → d.power.state = .asking →
        (peerMark d).power = { d.power with
          state := .rising, switchClosed := true, riseEnd := some x.finish, currentRun := 0 }) ∧
      (d.power.state ≠ .asking ∨ (∀ x : RosterEntry, ¬granted x) → (peerMark d).power = d.power)) ∧
    (d.power.state = .on → powerMark d = { d with
      power := calm,
      engine := { d.engine with table := d.engine.table.map fun r =>
        if ∃ rail : RailId, r.locus = .glitch rail ∧ d.power.rails[rail].excursion = false then credited r
        else r } }) ∧
    (d.power.state = .rising → d.power.riseEnd = some n → (∀ r : RailId, inside r) → powerMark d = jobPowerOn { d with
      power := { rested with state := .on, switchClosed := true },
      engine := { d.engine with table := d.engine.table.map fun r =>
        if ∃ rail : RailId, r.locus = .trip rail then credited r else r } }) ∧
    (d.power.state = .rising → d.power.riseEnd = some n → ∀ r : RailId, ¬inside r →
      (∀ lower : RailId, lower < r → inside lower) →
      let d' : Device := powerMark d
      d'.power.switchClosed = false ∧ d'.power.riseEnd = none ∧ d'.causes.records[(2 : Fin 15)].flag = true ∧
        queued d'.engine (.trip r) n ∧
        (∀ f : Frame, railRequested d'.link.disturbs f ↔ railRequested d.link.disturbs f) ∧
        (d.job.state.active = false →
          d'.power = { rested with state := .tripped, switchClosed := false } ∧ d'.job = d.job) ∧
        ∃ e : Device, tripTaken e d' ∧
          e = { d with
            power := { rested with state := .tripped, switchClosed := false },
            job := { d.job with rackEvents := e.job.rackEvents }, engine := e.engine, causes := e.causes,
            link := { d.link with disturbs := e.link.disturbs, notices := e.link.notices } }) ∧
    (d.power.state = .falling → d.power.fallCount < 7 →
      powerMark d = { d with power := { calm with fallCount := d.power.fallCount + 1 } }) ∧
    (d.power.state = .falling → 7 ≤ d.power.fallCount →
      let off : Device := { d with power := { calm with fallCount := d.power.fallCount + 1, state := .off } }
      let asked : Power := if d.power.pendingRequest then { off.power with state := .asking, pendingRequest := false }
        else off.power
      (d.job.state = .cycling → d.job.phase = some .awaitingOff → powerMark d = { off with
        power := asked, job := { d.job with phase := some .dwelling, dwell := some d.job.offDwell } }) ∧
      (d.job.state ≠ .cycling ∨ d.job.phase ≠ some .awaitingOff →
        powerMark d = { closingTest off with power := asked })) ∧
    (d.power.state = .off ∨ d.power.state = .asking ∨ d.power.state = .tripped ∨
        (d.power.state = .rising ∧ d.power.riseEnd ≠ some n) →
      powerMark d = { d with power := calm })

/-- The attribution engine and the cause unit at a mark: every entry stamped three frames back or earlier leaves the
queue and is settled, in queue order; a queue that this empties is reported to the job, whose closing test acts in
CLOSING alone; the burst tallies shift; and a notice of every cause that passes its test is queued, but in
LISTEN-ONLY. -/
def Obligations.MarkSettlesAndOffers : Prop :=
  ∀ d : Device,
    let due : Entry → Prop := fun e => 3 ≤ frameAge d.link.frame e.stamp ∧ frameAge d.link.frame e.stamp < 2147483651
    ((∀ e ∈ d.engine.queue, ¬due e) → settleDue d = d) ∧
    (∀ (before after : List Entry) (e : Entry), d.engine.queue = before ++ [e] ++ after → due e →
      (∀ x ∈ before, ¬due x) →
      settleDue d = settleDue (settle e { d with engine := { d.engine with queue := before ++ after } })) ∧
    (settleDue d).engine.queue = d.engine.queue.filter (fun e =>
      !decide (3 ≤ frameAge d.link.frame e.stamp ∧ frameAge d.link.frame e.stamp < 2147483651)) ∧
    (d.engine.queue ≠ [] → (∀ e ∈ d.engine.queue, due e) → settleMark d = closingTest (settleDue d)) ∧
    (d.engine.queue = [] ∨ (∃ e ∈ d.engine.queue, ¬due e) ∨ d.job.state ≠ .closing → settleMark d = settleDue d) ∧
    tallyShift d = { d with engine := { d.engine with tallyBefore := d.engine.tallyNow, tallyNow := ⟨[], false⟩ } } ∧
    (d.link.mode = .listenOnly → offerAll d = d) ∧
    (d.link.mode ≠ .listenOnly →
      offerAll d = { d with link := { d.link with notices := (offerAll d).link.notices } } ∧
      ∀ i : Fin 15, (offerAll d).link.notices.getLsbD (i.val + 1) = (d.link.notices.getLsbD (i.val + 1) ||
        decide (d.causes.records[i].flag = true ∧ d.causes.records[i].notified = false ∧
          1 ≤ d.causes.records[i].level ∧ d.causes.floor ≤ d.causes.records[i].level)))

/-- A leading edge less than 15.0 ms after the last accepted mark adds EARLY-MARK and changes nothing else but the
moment of the latest event; an edge seen while the controller drives the line is its own and changes nothing at all;
the moments of the edge, of the drive's end and of the latest event are the model's choice (log entry 2). A pulse line
low for more than 200 µs raises CADENCE-FAULT, and mutes a NORMAL controller, whose message under way stops with every
item still queued (log entry 12); the other modes stand. The release that makes an accepted mark clean brings a muted
controller back to NORMAL and leaves the other modes. That each such event raises the cause, and that a release that
no open pulse of an accepted mark goes before changes nothing, is the model's choice (log entry 13). -/
def Obligations.PulseLineWithoutMark : Prop :=
  (∀ (since previous : Nat) (view : MarkView) (s : State), s.link.previousMark = some previous →
    (previous + since < s.link.driveUntil → exec (.candidateMark since view) s = .next s) ∧
    (s.link.driveUntil ≤ previous + since → since < 150000 →
      ∃ t, exec (.candidateMark since view) s = .next t ∧
        t = { s with link := { s.link with errors := s.link.errors ||| 0x80 }, now := t.now })) ∧
  ∀ s : State,
    (∃ t, exec .pulseLineStuckLow s = .next t ∧
      t = { s with link := t.link, causes := t.causes } ∧ occurred s.causes t.causes 13 ∧
      t.link = { s.link with mode := if s.link.mode = .normal then .muted else s.link.mode, markPulse := false,
                             flight := if s.link.mode = .normal then none else s.link.flight,
                             driveUntil := if s.link.mode = .normal then 0 else s.link.driveUntil,
                             notices := t.link.notices }) ∧
    (s.link.markPulse = true → exec .cleanMarkRelease s =
      .next { s with link := { s.link with markPulse := false,
                                           mode := if s.link.mode = .muted then .normal else s.link.mode } }) ∧
    (s.link.markPulse = false → exec .cleanMarkRelease s = .next s)

/-! ## Reception -/

/-- Four header bytes that decode clean are judged by their fields: another sender is SLOT-MISMATCH, a payload above 80
bytes OVERLONG, another format or a payload of no bytes with items UNKNOWN-ITEM, each discarded and the slot blind; an
empty message is good at once; and a payload length from 1 to 80 is awaited. Bytes that decode corrected are judged
likewise after HDR-CORRECTED is recorded, and uncorrectable ones are discarded as HDR-UNCORRECTABLE. A right header of
the slot's sender, as a bay sends it, is awaited. Outside reception, and after four bytes, nothing changes. -/
def Obligations.HeaderIsJudged : Prop :=
  (∀ (s : State) (k : StationId) (b0 b1 b2 b3 : Byte), receives s k → s.link.reception = .idle →
    ∃ t, exec (.headerReceived b0 b1 b2 b3) s = .next t ∧
      match decodeHeader (headerData b0 b1 b2) b3 with
      | .clean h => headerTaken s t k h
      | .corrected h => headerTaken { s with link := { s.link with errors := s.link.errors ||| 0x1 } } t k h
      | .uncorrectable => t = { s with link := t.link, view := t.view } ∧ discarded s t k 0x2) ∧
  (∀ (s : State) (k : StationId) (length count : Nat), receives s k → s.link.reception = .idle →
    1 ≤ length → length ≤ 80 → count < 256 →
    let h : List Byte := headerBytes k.val length count
    exec (.headerReceived (byteAt h 0) (byteAt h 1) (byteAt h 2) (byteAt h 3)) s =
      .next { s with link := { s.link with reception := .awaiting length count } }) ∧
  (∀ (s : State) (k sender : StationId) (length count : Nat), receives s k → s.link.reception = .idle →
    sender ≠ k → length < 256 → count < 256 →
    let h : List Byte := headerBytes sender.val length count
    ∃ t, exec (.headerReceived (byteAt h 0) (byteAt h 1) (byteAt h 2) (byteAt h 3)) s = .next t ∧
      t = { s with link := t.link, view := t.view } ∧ discarded s t k 0x10) ∧
  ∀ (s : State) (b0 b1 b2 b3 : Byte), (∀ k : StationId, ¬receives s k) ∨ s.link.reception ≠ .idle →
    exec (.headerReceived b0 b1 b2 b3) s = .next s

/-- A message whose checksum differs from its bytes is discarded as CHECKSUM, and one whose payload does not parse into
exactly the declared items as UNKNOWN-ITEM; the slot is blind. Where no message is awaited, nothing changes. That
nothing changes either while bytes are missing is the model's choice, since the event carries the awaited bytes whole
(log entry 9). -/
def Obligations.BadMessageBlindsSlot : Prop :=
  (∀ (s : State) (k : StationId) (length count : Nat) (bytes : List Byte) (view : MessageView), receives s k →
    s.link.reception = .awaiting length count → bytes.length = length + 2 →
    (be16 (crc16 (bytes.take length)).toNat ≠ bytes.drop length →
      ∃ t, exec (.messageComplete bytes view) s = .next t ∧
        t = { s with link := t.link, view := t.view, pins := view.pins } ∧ discarded s t k 0x4) ∧
    (be16 (crc16 (bytes.take length)).toNat = bytes.drop length →
      parseItems (decide (k = 0)) count (bytes.take length) = none →
      ∃ t, exec (.messageComplete bytes view) s = .next t ∧
        t = { s with link := t.link, view := t.view, pins := view.pins } ∧ discarded s t k 0x40)) ∧
  ∀ (s : State) (bytes : List Byte) (view : MessageView),
    (∀ (k : StationId) (length count : Nat), receives s k → s.link.reception = .awaiting length count →
      bytes.length < length + 2) →
    exec (.messageComplete bytes view) s = .next s

/-- A good message of a peer makes it PRESENT with a silent count of 0. One PRESENT in it replaces the peer's power
state, job state and budget; a budget other than the own strap's lowers the effective budget, and raises
STRAP-MISMATCH where it is new from that peer. One ASK stores its window, held to 4 to 64, and notes the slot with it.
One DISTURB of lag 0 or 1 puts the peer into the disturbed set of the current frame or the one before, and any other
lag changes nothing more. -/
def Obligations.PeerItemsAreTaken : Prop :=
  (∀ (s : State) (k : StationId) (power : PowerState) (job : JobState) (budget verdict lanes e1 e2 : Nat)
    (view : MessageView),
    receives s k → k ≠ 0 → s.link.reception = .awaiting 8 1 → 1 ≤ budget → budget ≤ 4 → verdict < 8 →
    let payload : List Byte := [0x01, byteOf (powerCode power + 16 * jobCode job),
      byteOf (verdict + 16 * (budget - 1)), byteOf lanes, byteOf e1, byteOf e2, 0, 0]
    let mismatch := budget ≠ strapBudget s.toDevice
    ∃ t, exec (.messageComplete (withChecksum payload) view) s = .next t ∧
      t = { s with link := t.link, view := t.view, causes := t.causes, pins := view.pins } ∧
      t.link = { s.link with reception := .done, notices := t.link.notices } ∧
      t.view = { s.view with peers := t.view.peers,
                             budget := if mismatch then min budget s.view.budget else s.view.budget } ∧
      (∀ b : StationId, b ≠ k → t.view.peers[b] = s.view.peers[b]) ∧
      t.view.peers[k] = { s.view.peers[k] with present := true, silent := 0, power := power, job := some job,
                                               budget := some budget } ∧
      (mismatch ∧ s.view.peers[k].budget ≠ some budget → occurred s.causes t.causes 11) ∧
      (¬(mismatch ∧ s.view.peers[k].budget ≠ some budget) →
        t.causes = s.causes ∧ t.link.notices = s.link.notices)) ∧
  ∀ (s : State) (k : StationId) (value b2 b3 : Byte) (view : MessageView),
    receives s k → k ≠ 0 → s.link.reception = .awaiting 4 1 →
    let heard : Peer := { s.view.peers[k] with present := true, silent := 0 }
    let window : Nat := if value.toNat < 4 then 4 else if 64 < value.toNat then 64 else value.toNat
    exec (.messageComplete (withChecksum [0x03, value, b2, b3]) view) s = .next { s with
      link := { s.link with reception := .done }, pins := view.pins,
      view := { s.view with peers := s.view.peers.set k { heard with window := window },
                            notes := s.view.notes.set k (.ask window) } } ∧
    ∃ t, exec (.messageComplete (withChecksum [0x02, value, b2, b3]) view) s = .next t ∧
      t = { s with
        link := { s.link with reception := .done }, pins := view.pins,
        view := { s.view with peers := s.view.peers.set k heard, ring := t.view.ring } } ∧
      t.view.ring.length = s.view.ring.length ∧
      ∀ (j : Nat) (e : RingEntry), s.view.ring[j]? = some e → t.view.ring[j]? = some
        (if j = value.toNat ∧ j ≤ 1 then { e with disturbed := e.disturbed ||| 1#16 <<< k.val } else e)

/-- A good slot-0 message that holds one command item: the bay executes the item's row where the target is its own
bay number or 0, and passes it over otherwise. Of two items the first is executed whole, then the step events and
samples that the world puts between the two, and then the second. That the items are executed within the message's
own command, with the events between them as part of what the controller sees, is the model's choice (log entry 9). -/
def Obligations.SlotZeroItemIsExecuted : Prop :=
  (∀ (s : State) (target seq kind : Byte) (args : List Byte) (view : MessageView), receives s 0 →
    args.length ≤ 75 → s.link.reception = .awaiting (5 + args.length) 1 →
    let taken := exec (.messageComplete (withChecksum (commandItemBytes target seq kind args)) view) s
    let received : State := { s with link := { s.link with reception := .done }, pins := view.pins }
    (target.toNat = 0 ∨ target.toNat = s.link.bay.toNat → taken = exec (commandOf kind seq args view.pins) received) ∧
    (target.toNat ≠ 0 ∧ target.toNat ≠ s.link.bay.toNat → taken = .next received)) ∧
  ∀ (s : State) (t1 q1 k1 t2 q2 k2 : Byte) (a1 a2 : List Byte) (view : MessageView), receives s 0 →
    a1.length + a2.length ≤ 70 → s.link.reception = .awaiting (10 + a1.length + a2.length) 2 →
    (t1.toNat = 0 ∨ t1.toNat = s.link.bay.toNat) →
    let taken := exec (.messageComplete (withChecksum (commandItemBytes t1 q1 k1 a1 ++ commandItemBytes t2 q2 k2 a2))
      view) s
    let received : State := { s with link := { s.link with reception := .done }, pins := view.pins }
    let first : State := afterCommand received (commandOf k1 q1 a1 view.pins)
    let between : State := ((view.between.headD []).map eventOf).foldl afterCommand first
    (t2.toNat = 0 ∨ t2.toNat = s.link.bay.toNat → taken = exec (commandOf k2 q2 a2 between.pins) between) ∧
    (t2.toNat ≠ 0 ∧ t2.toNat ≠ s.link.bay.toNat → taken = .next between)

/-- A line idle for more than 30 µs, a framing error and the end of the slot each discard the message under way, and
the line activity before a header, as TRUNCATED. A slot that ends without line activity is silent: a peer's record
counts it. At its end, a slot whose message is done, and the own slot, have no outcome. In every case the next slot
begins, and the moment of the latest event may move on (log entry 2). -/
def Obligations.SlotWithoutMessageIsBlindOrSilent : Prop :=
  (∀ (s : State) (k : StationId), receives s k →
    (s.link.reception ≠ .done →
      (∃ t, exec .lineIdleTimeout s = .next t ∧ t = { s with link := t.link, view := t.view } ∧
        discarded s t k 0x8) ∧
      ∃ t, exec .framingError s = .next t ∧ t = { s with link := t.link, view := t.view } ∧ discarded s t k 0x8) ∧
    (∀ active : Bool, (s.link.reception = .idle ∧ active = true) ∨
        (s.link.reception ≠ .idle ∧ s.link.reception ≠ .done) →
      ∃ t u : State, exec (.slotEnd active) s = .next t ∧ discarded s u k 0x8 ∧
        u = { s with link := u.link, view := u.view } ∧
        t = { u with link := { u.link with slot := slotBehind k, reception := .idle }, now := t.now }) ∧
    (s.link.reception = .idle →
      ∃ t, exec (.slotEnd false) s = .next t ∧
        t = { s with link := { s.link with slot := slotBehind k, reception := .idle }, view := t.view,
                     now := t.now } ∧
        t.view = { s.view with peers := t.view.peers } ∧ (k = 0 → t.view = s.view) ∧
        (∀ b : StationId, b ≠ k → t.view.peers[b] = s.view.peers[b]) ∧
        (k ≠ 0 → t.view.peers[k] = unheard s.view.peers[k]))) ∧
  (∀ (s : State) (k : StationId) (active : Bool), s.link.slot = some k →
    ownSlot s.toDevice = some k ∨ s.link.reception = .done →
    ∃ t, exec (.slotEnd active) s = .next t ∧
      t = { s with link := { s.link with slot := slotBehind k, reception := .idle }, now := t.now }) ∧
  ∀ (s : State) (active : Bool), s.link.slot = none → exec (.slotEnd active) s = .next s

/-! ## Transmission -/

/-- In NORMAL mode, in its own slot, once a frame, the controller begins the message that assembly gives it, of at most
86 bytes. It takes the error summary as it stands, the DISTURB entries of the frame before and of this one, an ASK where
R22 calls for it, the replies from the head of the queue up to the first that does not fit, and as many notices as then
fit, those of the highest levels and, among equal levels, of the lowest cause numbers. Queued notices that fail their
test are removed, and nothing else changes but the moment of the latest event (log entry 2). In any other mode, and
outside its own slot, nothing happens. -/
def Obligations.OwnMessageBegins : Prop :=
  ∀ s : State,
    (s.link.slot ≠ none → s.link.slot = ownSlot s.toDevice → s.link.mode = .normal → s.link.begun = false →
      let f : Flight := assemble s.toDevice
      ∃ t, exec .ownSlotTransmit s = .next t ∧
        t = { s with link := { s.link with flight := some f, begun := true, notices := t.link.notices },
                     now := t.now } ∧
        f.errors = s.link.errors ∧ f.bytes.length ≤ 86 ∧
        f.ask = (if s.power.state = .asking ∧ s.view.listening = 0 then some s.power.settings.riseWindow
                 else none) ∧
        (∀ i : Fin 15, t.link.notices.getLsbD (i.val + 1) =
          (s.link.notices.getLsbD (i.val + 1) &&
            decide (s.causes.records[i].flag = true ∧ s.causes.records[i].notified = false ∧
              1 ≤ s.causes.records[i].level ∧ s.causes.floor ≤ s.causes.records[i].level))) ∧
        f.disturbs = ((s.link.disturbs.filter fun e => decide (e.frame = s.link.frame - 1)) ++
          s.link.disturbs.filter fun e => decide (e.frame = s.link.frame)).take 2 ∧
        (let used : Nat := 8 + 4 * f.disturbs.length + (if f.ask.isSome then 4 else 0) +
            ((s.bench.replies.take f.replies).map fun r => 6 + r.data.length).sum
         let waiting : List (Fin 15) := (List.finRange 15).filter fun i => t.link.notices.getLsbD (i.val + 1)
         used ≤ 80 ∧ f.replies ≤ s.bench.replies.length ∧
         (∀ r : Reply, s.bench.replies[f.replies]? = some r → 80 < used + 6 + r.data.length) ∧
         (∀ i : Fin 15, f.notices.getLsbD (i.val + 1) = true → t.link.notices.getLsbD (i.val + 1) = true) ∧
         (LevelInv s.toDevice →
          ((List.finRange 15).filter fun i => f.notices.getLsbD (i.val + 1)).length =
            min waiting.length ((80 - used) / 6) ∧
          ∀ i j : Fin 15, f.notices.getLsbD (i.val + 1) = true → t.link.notices.getLsbD (j.val + 1) = true →
            f.notices.getLsbD (j.val + 1) = false → goesBefore s.causes i j))) ∧
    (s.link.slot = none ∨ s.link.slot ≠ ownSlot s.toDevice ∨ s.link.mode ≠ .normal ∨ s.link.begun = true →
      exec .ownSlotTransmit s = .next s)

/-- Every message a numbered bay assembles is one that a receiver finds good: its header decodes clean and passes the
field tests of the sender's slot, its item count is the number of items placed, its checksum agrees, and its payload
parses to exactly its items: the PRESENT of the bay's power state, job state and strap budget, the DISTURB items with
their lags, the ASK, and then as many items for the bench as replies and notices are carried. The payload is, byte for
byte, those items: PRESENT with the error summary, the verdict and the lanes playing too, the DISTURB sources, the
replies from the head of the queue, and the notices carried, by level and then by cause number. -/
def Obligations.OwnMessageIsGoodAtReceiver : Prop :=
  ∀ s : State, s.link.bay ≠ 0 → BenchInv s.bench →
    let f := assemble s.toDevice
    let h := headerData (byteAt f.bytes 0) (byteAt f.bytes 1) (byteAt f.bytes 2)
    decodeHeader h (byteAt f.bytes 3) = .clean h ∧ headerFault s.link.bay.toFin h = none ∧
      f.bytes.length = 4 + nat8 f.bytes 1 + 2 ∧
      ∃ order : List (Fin 15), order.Pairwise (goesBefore s.causes) ∧
        (∀ i : Fin 15, i ∈ order ↔ f.notices.getLsbD (i.val + 1) = true) ∧
        nat8 f.bytes 2 = 1 + f.disturbs.length + f.ask.toList.length + f.replies + order.length ∧
        (f.bytes.drop 4).take (nat8 f.bytes 1) = itemBytes s.toDevice f order ∧
        judgeMessage s.link.bay.toFin (nat8 f.bytes 1) (nat8 f.bytes 2) (f.bytes.drop 4) =
          .ok ([Item.present s.power.state (some s.job.state) (strapBudget s.toDevice)] ++
            f.disturbs.map (fun e => Item.disturb (frameAge s.link.frame e.frame)) ++
            (f.ask.toList.map fun w => Item.ask (w % 256)) ++
            List.replicate (f.replies + order.length) Item.forBench)

/-- On the line each byte is a start bit, its bits 0 to 7 and a stop bit, and the bytes follow one another; from 100 µs
into the own slot each bit of the message under way is driven for ten clock periods, and then none (the start bit low
and a 1 high are the model's, log entry 20). A collision stops the message at the bit being driven, the last where none
is: COLLISION is recorded, and every queue and the peer view stand; it is taken as at the end of that bit (both the
model's, log entry 21). A message that has gone out clean, at the end of its last bit: the error kinds it carried leave
the summary, the collision run is 0, the replies and notices it carried leave their queues, its causes become notified,
a DISTURB entry keeps only the sources it gained in flight, and an own ASK is noted with its window. Without a message
under way neither changes anything and no level is driven; a message of no bytes has no bit to collide at. -/
def Obligations.TransmissionEnds : Prop :=
  (∀ (bs : List Byte) (k : Fin bs.length), (lineLevels bs).length = 10 * bs.length ∧
    (lineLevels bs)[10 * k.val]? = some false ∧
    (∀ j : Fin 8, (lineLevels bs)[10 * k.val + 1 + j.val]? = some (bs[k].getLsbD j.val)) ∧
    (lineLevels bs)[10 * k.val + 9]? = some true) ∧
  (∀ (s : State) (f : Flight), s.link.flight = some f →
    let start : Nat := s.link.previousMark.getD 0 + s.link.bay.toNat * 10000 + 1000
    (∀ k r : Nat, r < 10 → s.now = start + 10 * k + r → messageLevel s.toDevice = (lineLevels f.bytes)[k]?) ∧
    (f.bytes ≠ [] →
      ∃ k : Nat, k = min ((s.now - start) / 10) (10 * f.bytes.length - 1) ∧
        exec .collision s = .next { s with
          link := { s.link with flight := none, collided := true, errors := s.link.errors ||| 0x100 },
          now := max s.now (start + 10 * (k + 1)) }) ∧
    (f.bytes = [] → exec .collision s = .next s)) ∧
  (∀ s : State, s.link.flight = none →
    exec .collision s = .next s ∧ exec .transmissionClean s = .next s ∧ messageLevel s.toDevice = none) ∧
  ∀ (s : State) (f : Flight), s.link.flight = some f → f.disturbs.Pairwise (fun a b => a.frame ≠ b.frame) →
    ∃ t, exec .transmissionClean s = .next t ∧
      t = { s with link := t.link, view := t.view, causes := t.causes,
                   now := max s.now
                     (s.link.previousMark.getD 0 + s.link.bay.toNat * 10000 + 1000 + 100 * f.bytes.length),
                   bench := { s.bench with replies := s.bench.replies.drop f.replies } } ∧
      t.link = { s.link with flight := none, collisionRun := 0, errors := s.link.errors &&& ~~~f.errors,
                             notices := s.link.notices &&& ~~~f.notices, disturbs := t.link.disturbs } ∧
      (∀ g : Frame,
        ((∃ e ∈ t.link.disturbs, e.frame = g ∧ e.rail = true) ↔
          (∃ e ∈ s.link.disturbs, e.frame = g ∧ e.rail = true) ∧ ¬∃ e ∈ f.disturbs, e.frame = g ∧ e.rail = true) ∧
        ((∃ e ∈ t.link.disturbs, e.frame = g ∧ e.burst = true) ↔
          (∃ e ∈ s.link.disturbs, e.frame = g ∧ e.burst = true) ∧
            ¬∃ e ∈ f.disturbs, e.frame = g ∧ e.burst = true)) ∧
      (t.causes.floor = s.causes.floor ∧ ∀ i : Fin 15, t.causes.records[i] =
        { s.causes.records[i] with
            notified := s.causes.records[i].notified || f.notices.getLsbD (i.val + 1) }) ∧
      t.view = { s.view with notes := t.view.notes } ∧
      ∀ b : StationId, t.view.notes[b] =
        match f.ask with
        | some w => if ownSlot s.toDevice = some b then .ask w else s.view.notes[b]
        | none => s.view.notes[b]

/-! ## Encodings -/

/-- The header of any 24 data bits with their check byte decodes clean; with any one of its thirty bits flipped it
decodes to the same data, corrected; with any two flipped it is uncorrectable; bits 6 and 7 of the check byte do not
matter. -/
def Obligations.HeaderCorrectsOneDetectsTwo : Prop :=
  (∀ d : HeaderData, decodeHeader d (checkByte d) = .clean d) ∧
  (∀ (d : HeaderData) (j : Nat), j < 24 → decodeHeader (d ^^^ (1#24 <<< j)) (checkByte d) = .corrected d) ∧
  (∀ (d : HeaderData) (j : Nat), j < 6 → decodeHeader d (checkByte d ^^^ (1#8 <<< j)) = .corrected d) ∧
  (∀ (d : HeaderData) (j k : Nat), j < k → k < 24 →
    decodeHeader (d ^^^ (1#24 <<< j) ^^^ (1#24 <<< k)) (checkByte d) = .uncorrectable) ∧
  (∀ (d : HeaderData) (j k : Nat), j < 24 → k < 6 →
    decodeHeader (d ^^^ (1#24 <<< j)) (checkByte d ^^^ (1#8 <<< k)) = .uncorrectable) ∧
  (∀ (d : HeaderData) (j k : Nat), j < k → k < 6 →
    decodeHeader d (checkByte d ^^^ (1#8 <<< j) ^^^ (1#8 <<< k)) = .uncorrectable) ∧
  ∀ (d : HeaderData) (check : Byte), decodeHeader d (check &&& 0x3F#8) = decodeHeader d check

/-- Every stream code is read back from its first word, whatever the ignored bits of the word hold; a word of top
bits 0x0 that is not 0x0000, and every word of top bits 0xC to 0xF, is undefined. -/
def Obligations.StreamWordsDecode : Prop :=
  ∀ w : Word,
    (w.toNat / 4096 = 0 → decodeCode w = if w = 0 then .stop else .undefinedCode) ∧
    (∀ v : Byte, w.setWidth 8 = v →
      (w.toNat / 4096 = 1 → decodeCode w = .vector v) ∧ (w.toNat / 4096 = 3 → decodeCode w = .loop v.toNat) ∧
      (w.toNat / 4096 = 5 → decodeCode w = .strobe v) ∧ (w.toNat / 4096 = 6 → decodeCode w = .openWindow v) ∧
      (w.toNat / 4096 = 7 → decodeCode w = .closeWindow v) ∧ (w.toNat / 4096 = 8 → decodeCode w = .mark v) ∧
      (w.toNat / 4096 = 10 → decodeCode w = .park v)) ∧
    (∀ n : Nat, n < 4096 → w.toNat = 0x2000 + n → decodeCode w = .hold n) ∧
    (w.toNat / 4096 = 4 → decodeCode w = .again) ∧ (w.toNat / 4096 = 9 → decodeCode w = .rate) ∧
    (w.toNat / 4096 = 11 → decodeCode w = .wrap) ∧ (12 ≤ w.toNat / 4096 → decodeCode w = .undefinedCode) ∧
    decodeCode (encodeCode (decodeCode w)) = decodeCode w

/-! ## Samples and the board -/

/-- A converter sample, held at full scale, is stored as the latest of its channel in every power state, with the
channel's full-scale mark; a full-scale reading that finds the mark clear raises SENSOR-RANGE. A rail sample is judged
in ON alone: an inside one ends a glitch where the rail's run is 1 or 2, and only then has an effect; the first and the
second outside one raise the run, set the excursion mark and keep the frame of the run's first. In FALLING a rail
sample that finds all four rails below 500 mV brings OFF, or ASKING where a request is pending, with power OFF reached
reported to the job. The current is judged in RISING and ON: a sample above the limit of the state raises the run,
another sets it to 0. A glitch is RAIL-GLITCH, a GLITCH event stamped with the run's first frame, a DISTURB RAIL request
for that frame, and a run of 0. -/
def Obligations.SamplesAreSupervised : Prop :=
  (∀ (s : State) (r : RailId) (v : Nat),
    let result := exec (.converterSample (.rail r) v) s
    let held : Nat := min 16383 v
    let rises : Prop := 16383 ≤ v ∧ s.power.rails[r].fullScale = false
    let stored : Rail := { s.power.rails[r] with sample := held, fullScale := decide (16383 ≤ v) }
    let taken : Rail → Device := fun x =>
      let d : Device := { s.toDevice with power := { s.power with rails := s.power.rails.set r x } }
      if rises then raiseCause .sensorRange d else d
    let inside : Prop := s.power.settings.windows[r].low ≤ held ∧ held ≤ s.power.settings.windows[r].high
    let down : Prop := ∀ q : RailId, (taken stored).power.rails[q].sample < 500
    (s.power.state ≠ .on → (s.power.state = .falling → ¬down) → result = .next { s with toDevice := taken stored }) ∧
    (s.power.state = .falling → down →
      let off : Device := { taken stored with power := { (taken stored).power with state := .off } }
      let asked : Power := if s.power.pendingRequest then { off.power with state := .asking, pendingRequest := false }
        else off.power
      (s.job.state = .cycling → s.job.phase = some .awaitingOff → result = .next { s with toDevice := { off with
        power := asked, job := { s.job with phase := some .dwelling, dwell := some s.job.offDwell } } }) ∧
      (s.job.state ≠ .cycling ∨ s.job.phase ≠ some .awaitingOff →
        result = .next { s with toDevice := { closingTest off with power := asked } })) ∧
    (s.power.state = .on → inside → s.power.rails[r].run = 0 → result = .next { s with toDevice := taken stored }) ∧
    (s.power.state = .on → ¬inside → s.power.rails[r].run < 2 → result = .next { s with toDevice := taken { stored with
      run := stored.run + 1, excursion := true,
      first := if stored.run = 0 then some s.link.frame else stored.first } }) ∧
    ∀ f : Frame, s.power.state = .on → inside → (s.power.rails[r].run = 1 ∨ s.power.rails[r].run = 2) →
      s.power.rails[r].first = some f → ∃ t, result = .next t ∧
        t = { s with link := t.link, power := t.power, engine := t.engine, causes := t.causes,
                     job := { s.job with rackEvents := t.job.rackEvents } } ∧
        t.link = { s.link with disturbs := t.link.disturbs, notices := t.link.notices } ∧
        t.power = { s.power with rails := s.power.rails.set r { stored with run := 0, first := none } } ∧
        t.causes.records[(0 : Fin 15)] = happened s.causes.records[(0 : Fin 15)] ∧
        t.causes.records[(10 : Fin 15)] =
          (if rises then happened s.causes.records[(10 : Fin 15)] else s.causes.records[(10 : Fin 15)]) ∧
        t.engine = (takeEvent (.glitch r) f (taken stored)).engine ∧ queued t.engine (.glitch r) f ∧
        (s.link.mode ≠ .listenOnly → (f = s.link.frame ∨ f = s.link.frame - 1) → railRequested t.link.disturbs f) ∧
        (s.link.mode = .listenOnly → t.link.disturbs = s.link.disturbs)) ∧
  ∀ (s : State) (v : Nat),
    let result := exec (.converterSample .current v) s
    let held : Nat := min 16383 v
    let taken : Nat → Device := fun run =>
      let d : Device := { s.toDevice with
        power := { s.power with current := held, currentFull := decide (16383 ≤ v), currentRun := run } }
      if 16383 ≤ v ∧ s.power.currentFull = false then raiseCause .sensorRange d else d
    let limit : Nat := if s.power.state = .rising then s.power.settings.inrush else s.power.settings.run
    (s.power.state ≠ .rising → s.power.state ≠ .on →
      result = .next { s with toDevice := taken s.power.currentRun }) ∧
    (s.power.state = .rising ∨ s.power.state = .on →
      (held ≤ limit → result = .next { s with toDevice := taken 0 }) ∧
      (limit < held → s.power.currentRun < 2 →
        result = .next { s with toDevice := taken (s.power.currentRun + 1) }))

/-- The third consecutive outside sample of a rail in ON, and the third consecutive current sample above the limit
in RISING or ON, trip the board: the sample is stored, the switch opens, the runs are 0, RAIL-TRIP is raised, and
SENSOR-RANGE where the reading is full scale and the channel's mark was clear; a TRIP event of the current frame goes
to the engine; power leaving ON stops the lanes that go; and the job takes the trip by its state. In a run it stops the
lanes and, with a retry left, dwells in RECOVERING, or else enters CLOSING as EXHAUSTED; in PAUSED with the finish-due
mark set it enters CLOSING for TARGET; each entry to CLOSING brings the staged set into force and makes the closing
test. In CLOSING it makes the closing test alone, and in any other state nothing. -/
def Obligations.ThirdOverrunTrips : Prop :=
  ∀ (s : State) (channel : Channel) (v : Nat),
    let held : Nat := min 16383 v
    let full : Bool := decide (16383 ≤ v)
    (match channel with
     | .rail r => s.power.state = .on ∧ s.power.rails[r].run = 2 ∧
        (held < s.power.settings.windows[r].low ∨ s.power.settings.windows[r].high < held)
     | .current => s.power.currentRun = 2 ∧
        (s.power.state = .on ∧ s.power.settings.run < held ∨
          s.power.state = .rising ∧ s.power.settings.inrush < held)) →
    let wasFull : Bool := match channel with
      | .rail r => s.power.rails[r].fullScale
      | .current => s.power.currentFull
    let locus : Locus := match channel with
      | .rail r => .trip r
      | .current => .trip 0
    let stored : Power := match channel with
      | .rail r => { s.power with
          rails := s.power.rails.set r { s.power.rails[r] with sample := held, fullScale := full } }
      | .current => { s.power with current := held, currentFull := full }
    ∃ t, exec (.converterSample channel v) s = .next t ∧
      t.power.switchClosed = false ∧ t.power.riseEnd = none ∧ t.power.currentRun = 0 ∧
      t.power.current = stored.current ∧ t.power.currentFull = stored.currentFull ∧
      (∀ r : RailId, t.power.rails[r].run = 0 ∧ t.power.rails[r].sample = stored.rails[r].sample ∧
        t.power.rails[r].fullScale = stored.rails[r].fullScale) ∧
      t.causes.records[(1 : Fin 15)].flag = true ∧
      t.causes.records[(1 : Fin 15)].count = (happened s.causes.records[(1 : Fin 15)]).count ∧
      (full = true → wasFull = false → t.causes.records[(10 : Fin 15)].flag = true ∧
        t.causes.records[(10 : Fin 15)].count = (happened s.causes.records[(10 : Fin 15)]).count) ∧
      (full = false ∨ wasFull = true → t.causes.records[(10 : Fin 15)].flag = s.causes.records[(10 : Fin 15)].flag ∧
        t.causes.records[(10 : Fin 15)].count = s.causes.records[(10 : Fin 15)].count) ∧
      t.engine = (takeEvent locus s.link.frame { s.toDevice with power := stored }).engine ∧
      queued t.engine locus s.link.frame ∧
      (s.link.mode ≠ .listenOnly → railRequested t.link.disturbs s.link.frame) ∧
      (s.power.state = .on → ∀ i : LaneId, (lane t.toDevice i).state.going = false) ∧
      (s.job.state.active = false → t.power.state = .tripped ∧ t.job = s.job) ∧
      (∃ e left : Device, tripTaken e t.toDevice ∧ e.power.state = .tripped ∧
        left = { s.toDevice with
          power := e.power, job := { s.job with rackEvents := e.job.rackEvents }, engine := e.engine,
          causes := e.causes, link := { s.link with disturbs := e.link.disturbs, notices := e.link.notices } } ∧
        e = if s.power.state = .on then lanesAsked .powerLeft left else left) ∧
      (s.job.state = .running → s.job.retriesUsed < s.job.retries →
        t.power.state = .tripped ∧ t.job.state = .recovering ∧ t.job.retriesUsed = s.job.retriesUsed + 1 ∧
          t.job.phase = some .dwelling ∧ t.job.dwell = some s.job.offDwell) ∧
      (s.job.state = .running → s.job.retriesUsed = s.job.retries → t.power.state = .off ∧ t.job.state = .closing ∧
        t.job.closing = some .exhausted ∧ t.job.retriesUsed = s.job.retriesUsed ∧ t.job.staged = NamedSettings.none) ∧
      t.pattern = s.pattern ∧ t.view = s.view ∧ t.bench = s.bench ∧ t.pins = s.pins ∧ t.pending = s.pending ∧
      t.link = { s.link with disturbs := t.link.disturbs, notices := t.link.notices }

/-- At each accepted mark, an expiry of the cadence timer or a leading edge that is taken, the temperature reading is
stored, held to −80..+300, and moves the band by the table of R62 under the thresholds in force; an open sensor keeps
both; SENSOR-RANGE is raised for a reading beyond the range and for an open sensor. -/
def Obligations.TemperatureMovesBand : Prop :=
  ∀ (c : Instr) (view : MarkView) (s : State), marks s view c → ∃ t, exec c s = .next t ∧
    match view.temperature with
    | .sensorOpen => t.power.temperature = s.power.temperature ∧ t.power.band = s.power.band ∧
        t.causes.records[(10 : Fin 15)].flag = true
    | .halfDegrees r =>
      let held : Int := if r < -80 then -80 else if 300 < r then 300 else r
      let warm : Int := s.power.settings.warmAt
      let hot : Int := s.power.settings.hotAt
      t.power.temperature = some held ∧ (held ≠ r → t.causes.records[(10 : Fin 15)].flag = true) ∧
        t.power.band =
          match s.power.band with
          | .cold => if held ≥ hot then .hot else if held ≥ warm then .warm else .cold
          | .warm => if held ≥ hot then .hot else if held < warm - 4 then .cold else .warm
          | .hot => if held < warm - 4 then .cold else if held < hot - 4 then .warm else .hot

/-! ## Step events and the capture lanes -/

/-- A step event with hold steps left samples the pins, feeds an open window, lowers the hold steps by 1 and loads the
timer with the step period; everything else stands. One with no hold steps left takes its sample and then a code run
of at most 64 non-step codes. A run that begins at a VECTOR drives it and moves on by one word, and one that begins at
a HOLD takes its hold steps, of which a count of 0 acts as 1; both load the timer. One that begins at an END stops the
lane where it stands and abandons the window, and a position past the memory or an undefined word is a code fault;
both report to the job, whose closing test acts in CLOSING alone. What a run's CYCLEs set off is taken after the
event, as CycleIsCountedWhereItMay says. The timer is held as the moment of its expiry (log entry 2). -/
def Obligations.StepEventRunsCodes : Prop :=
  (∀ (s : State) (i : LaneId) (b : Byte) (due : Nat), (lane s.toDevice i).state.going = true →
    (lane s.toDevice i).timer = .running due → 0 < (lane s.toDevice i).holdLeft →
    let l : Lane := lane s.toDevice i
    let c : Capture := capture s.toDevice i
    let moment : Nat := max s.now due
    exec (.stepTimerExpiry i b) s = .next { s with
      pins := s.pins.set i b, now := moment,
      lanes := s.lanes.set i { l with holdLeft := l.holdLeft - 1, timer := .running (moment + l.period) },
      captures := s.captures.set i
        (if c.window.isSome then
          { c with sample := b, signature := crcByte c.signature b, count := min 65535 (c.count + 1) }
         else { c with sample := b }) }) ∧
  ∀ (s : State) (i : LaneId) (b : Byte) (due : Nat), (lane s.toDevice i).state.going = true →
    (lane s.toDevice i).timer = .running due → (lane s.toDevice i).holdLeft = 0 →
    let l : Lane := lane s.toDevice i
    let c : Capture := capture s.toDevice i
    let w : Word := patternRead s.pattern l.position
    let moment : Nat := max s.now due
    let fed : Capture := if c.window.isSome then
        { c with sample := b, signature := crcByte c.signature b, count := min 65535 (c.count + 1) }
      else { c with sample := b }
    let d : Device := { s.toDevice with pins := s.pins.set i b, now := moment, captures := s.captures.set i fed }
    let ran : Device × List Deferred := codeRun false i 64 d
    let loaded : Lane := { lane ran.1 i with timer := .running (ran.1.now + (lane ran.1 i).period) }
    let closed : Device :=
      if (lane ran.1 i).state.going = true then { ran.1 with lanes := ran.1.lanes.set i loaded }
      else closingTest ran.1
    (l.position < 32768 → w.toNat / 4096 = 1 → exec (.stepTimerExpiry i b) s = .next { s with toDevice := { d with
      lanes := s.lanes.set i { l with vector := w.setWidth 8, position := l.position + 1,
                                      timer := .running (moment + l.period) } } }) ∧
    (l.position < 32768 → w.toNat / 4096 = 2 → exec (.stepTimerExpiry i b) s = .next { s with toDevice := { d with
      lanes := s.lanes.set i { l with holdLeft := w.toNat % 4096 - 1, position := l.position + 1,
                                      timer := .running (moment + l.period) } } }) ∧
    (l.position < 32768 → w = 0 → exec (.stepTimerExpiry i b) s = .next { s with toDevice := closingTest { d with
      captures := s.captures.set i { fed with window := none },
      lanes := s.lanes.set i { l with state := .stopped, timer := .stopped } } }) ∧
    (32768 ≤ l.position ∨ 12 ≤ w.toNat / 4096 ∨ (w ≠ 0 ∧ w.toNat / 4096 = 0) →
      ∃ d' : Device, codeFaulted d d' i (if 32768 ≤ l.position then .bounds else .undefinedCode) ∧
        exec (.stepTimerExpiry i b) s = .next { s with toDevice := closingTest d' }) ∧
    exec (.stepTimerExpiry i b) s = .next { s with toDevice := deliver ran.2 closed }

/-- The codes of a code run with room for some more non-step codes. A step code, an END, a WRAP in FINISHING and a
code fault end the run. Every other code has its effect and the run goes on with room for one less: a REPEAT pushes
the loop stack and faults at a count of 0 and above two levels, an AGAIN goes back or leaves its loop and faults
without one, STROBE, OPEN, CLOSE, RATE and PARK act, a CYCLE of the lead lane goes to the job, any other MARK code is
a note, and a WRAP in PLAYING returns to the lane start. At no room left a non-step code faults STEPLESS; a two-word
code at the last word and a position past the memory fault BOUNDS. -/
def Obligations.CodesOfARun : Prop :=
  ∀ (giving : Bool) (i : LaneId) (d : Device) (room : Nat),
    let run : Nat → Device → Device × List Deferred := codeRun giving i
    let l : Lane := lane d i
    let w : Word := patternRead d.pattern l.position
    let second : Word := patternRead d.pattern (l.position + 1)
    let top : Nat := w.toNat / 4096
    let tag : Byte := w.setWidth 8
    let moved : Lane → Device := fun x => { d with lanes := d.lanes.set i x }
    let past : Nat → Device := fun words => moved { l with position := l.position + words }
    let faults : FaultKind → Device × List Deferred → Prop := fun k r => codeFaulted d r.1 i k ∧ r.2 = []
    let halted : Device := { moved { l with state := .stopped, holdLeft := 0, timer := .stopped } with
      captures := d.captures.set i { capture d i with window := none } }
    (32768 ≤ l.position → faults .bounds (run room d)) ∧
    (l.position < 32768 →
      (top = 1 → run room d = (moved { l with vector := tag, position := l.position + 1 }, [])) ∧
      (top = 2 → run room d = (moved { l with holdLeft := w.toNat % 4096 - 1, position := l.position + 1 }, [])) ∧
      (top ≠ 1 → top ≠ 2 → faults .stepless (run 0 d)) ∧
      (w = 0 → run (room + 1) d = (halted, [])) ∧
      (w ≠ 0 → top = 0 → faults .undefinedCode (run (room + 1) d)) ∧
      (12 ≤ top → faults .undefinedCode (run (room + 1) d)) ∧
      (top = 3 → tag = 0 ∨ 2 ≤ l.stack.length → faults .loop (run (room + 1) d)) ∧
      (top = 3 → tag ≠ 0 → l.stack.length < 2 → run (room + 1) d = run room (moved { l with
        stack := ⟨l.position + 1, tag.toNat⟩ :: l.stack, position := l.position + 1 })) ∧
      (top = 4 → l.stack = [] → faults .loop (run (room + 1) d)) ∧
      (∀ (e : LoopEntry) (rest : List LoopEntry), top = 4 → l.stack = e :: rest → run (room + 1) d = run room
        (if 1 < e.remaining then
          moved { l with stack := ⟨e.returnTo, e.remaining - 1⟩ :: rest, position := e.returnTo }
        else moved { l with stack := rest, position := l.position + 1 })) ∧
      (top = 5 ∨ top = 7 ∨ top = 9 → l.position = 32767 → faults .bounds (run (room + 1) d)) ∧
      (top = 5 → l.position ≠ 32767 → run (room + 1) d = run room
        (strobe i tag ((second >>> 8).setWidth 8) (second.setWidth 8) (past 2))) ∧
      (top = 6 → ∃ d' : Device, run (room + 1) d = run room d' ∧
        d' = { past 1 with
          captures := d.captures.set i { capture d i with window := some tag, signature := 0xFFFF, count := 0 },
          causes := d'.causes, link := { d.link with notices := d'.link.notices } } ∧
        ((capture d i).window = none → d'.causes = d.causes ∧ d'.link = d.link) ∧
        ((capture d i).window ≠ none → occurred d.causes d'.causes 4)) ∧
      (top = 7 → l.position ≠ 32767 → run (room + 1) d = run room (closeWindow i tag second (past 2))) ∧
      (top = 8 → tag = 1 → ¬leads d i → run (room + 1) d = run room (past 1)) ∧
      (top = 8 → tag = 1 → leads d i → run (room + 1) d =
        ((run room (jobCycle giving (past 1)).1).1,
          (jobCycle giving (past 1)).2 ++ (run room (jobCycle giving (past 1)).1).2)) ∧
      (top = 8 → tag ≠ 1 → ∃ d' : Device, run (room + 1) d = run room d' ∧
        d' = { moved { l with position := l.position + 1, note := some tag } with
          causes := d'.causes, link := { d.link with notices := d'.link.notices } } ∧
        occurred d.causes d'.causes 5) ∧
      (top = 9 → l.position ≠ 32767 → run (room + 1) d = run room
        (moved { l with period := max 2 second.toNat, position := l.position + 2 })) ∧
      (top = 10 → run (room + 1) d = run room (moved { l with park := tag, position := l.position + 1 })) ∧
      (top = 11 → l.state = .finishing → run (room + 1) d = (halted, [])) ∧
      (top = 11 → l.state ≠ .finishing → run (room + 1) d = run room
        (moved { l with stack := [], position := d.job.starts[i] })))

/-- A strobe that selects no pin, or is evaluated while power is not ON, changes nothing. Otherwise the last result
and the ever-failed flag follow the failing pins; the sample and the window stand. A failing pin is an event of its
locus in the current frame, stated to be queued where the queue has room for all eight; with one pin selected and
failing that event is all that the engine takes; and a selected pin that passes credits its locus's record with an
opportunity. A CLOSE closes the window and keeps its signature and count. Where the window was open under the tag and
power is ON, the signature is compared: an equal one is a PASS and credits its locus's record with an opportunity, a
different one is a FAIL and a SIGNATURE event of the current frame. A CLOSE that finds no window of its tag raises
WINDOW-MISUSE and compares nothing. -/
def Obligations.StrobesAndClosesAreJudged : Prop :=
  (∀ (d : Device) (i : LaneId) (tag expected mask : Byte),
    ((d.power.state ≠ .on ∨ mask = 0) → strobe i tag expected mask d = d) ∧
    (d.power.state = .on → mask ≠ 0 →
      let failing := ((capture d i).sample ^^^ expected) &&& mask
      let d' := strobe i tag expected mask d
      capture d' i = { capture d i with result := if failing = 0 then .pass else .fail,
                                        everFailed := (capture d i).everFailed || decide (failing ≠ 0) } ∧
      (∀ j : LaneId, j ≠ i → capture d' j = capture d j) ∧
      (failing = 0 → d'.causes = d.causes ∧ d'.link = d.link ∧ d'.engine = { d.engine with
        table := d.engine.table.map fun r =>
          if ∃ pin : Fin 8, mask.getLsbD pin.val = true ∧ r.locus = .strobe i pin tag then credited r
          else r }) ∧
      (d.engine.queue.length ≤ 24 →
        (∀ pin : Fin 8, failing.getLsbD pin.val = true → queued d'.engine (.strobe i pin tag) d.link.frame) ∧
        d'.engine.table = d.engine.table.map fun r =>
          if ∃ pin : Fin 8, mask.getLsbD pin.val = true ∧ failing.getLsbD pin.val = false ∧
            r.locus = .strobe i pin tag then credited r else r) ∧
      (∀ pin : Fin 8, failing = 1#8 <<< pin.val → mask = failing →
        d' = { takeEvent (.strobe i pin tag) d.link.frame d with captures := d'.captures }) ∧
      d'.lanes = d.lanes ∧ d'.power = d.power ∧ d'.pattern = d.pattern)) ∧
  ∀ (d : Device) (i : LaneId) (tag : Byte) (expected : Word),
    let c := capture d i
    let d' := closeWindow i tag expected d
    (capture d' i).window = none ∧ (capture d' i).signature = c.signature ∧ (capture d' i).count = c.count ∧
      (capture d' i).sample = c.sample ∧ (∀ j : LaneId, j ≠ i → capture d' j = capture d j) ∧
      (c.window = some tag → d.power.state = .on → c.signature = expected →
        (capture d' i).result = .pass ∧ (capture d' i).everFailed = c.everFailed ∧ d'.causes = d.causes ∧
          d'.engine = { d.engine with
            table := d.engine.table.map fun r => if r.locus = .signature i tag then credited r else r }) ∧
      (c.window = some tag → d.power.state = .on → c.signature ≠ expected →
        d' = { takeEvent (.signature i tag) d.link.frame d with
          captures := d.captures.set i { c with window := none, result := .fail, everFailed := true } } ∧
        queued d'.engine (.signature i tag) d.link.frame) ∧
      (c.window = some tag → d.power.state ≠ .on →
        d' = { d with captures := d.captures.set i { c with window := none } }) ∧
      (c.window ≠ some tag → occurred d.causes d'.causes 4 ∧ (capture d' i).result = c.result ∧
        (capture d' i).everFailed = c.everFailed ∧ d'.engine = d.engine)

/-- An event of a locus and a stamp. It merges into the queue entry of its locus and stamp, whose repeat count rises to
255 at most and which keeps its place, its band and its link; or it makes a new entry, placed after the last one not
stamped later, in the band as it stands. The new entry takes the free snapshot of lowest number, filled with the
conditions as they stand, where its locus has neither a record nor another entry. In a queue of 32 entries the head is
settled early first, with EARLY-SETTLE and its count. The locus joins the tally of its stamp; three loci in a tally
that has not requested yet request a DISTURB of the source BURST for that frame, which LISTEN-ONLY discards. Nothing
else changes. -/
def Obligations.EventsAreQueuedAndTallied : Prop :=
  ∀ (l : Locus) (f : Frame) (d : Device),
    let d' : Device := takeEvent l f d
    let queue : List Entry := d.engine.queue
    let here : Entry → Prop := fun e => e.locus = l ∧ e.stamp = f
    let known : Prop := (∃ r ∈ d.engine.table, r.locus = l) ∨ ∃ e ∈ queue, e.locus = l
    let conditions : Conditions :=
      { stamp := f, rails := Vector.ofFn fun r => d.power.rails[r].sample, current := d.power.current,
        temperature := d.power.temperature.getD (-80), positions := Vector.ofFn fun i => (lane d i).position }
    let loci : Tally → List Locus := fun t => if l ∈ t.loci then t.loci else t.loci ++ [l]
    let grown : Tally → Tally := fun t => ⟨loci t, t.requested || decide (3 ≤ (loci t).length)⟩
    let full : Tally → Prop := fun t => 3 ≤ (loci t).length ∧ t.requested = false
    let bursts : Prop := (f = d.link.frame ∧ full d.engine.tallyNow) ∨
      (f = d.link.frame - 1 ∧ full d.engine.tallyBefore)
    d' = { d with
      engine := d'.engine, causes := d'.causes, job := { d.job with rackEvents := d'.job.rackEvents },
      link := { d.link with disturbs := d'.link.disturbs, notices := d'.link.notices } } ∧
    (∀ (before after : List Entry) (e : Entry), queue = before ++ [e] ++ after → here e →
      (∀ x ∈ before ++ after, ¬here x) →
      d' = { d with
        engine := { d.engine with
          queue := before ++ [{ e with occurrences := min 255 (e.occurrences + 1) }] ++ after,
          tallyNow := d'.engine.tallyNow, tallyBefore := d'.engine.tallyBefore },
        link := { d.link with disturbs := d'.link.disturbs } }) ∧
    (∀ before after : List Entry, queue = before ++ after → (∀ x ∈ queue, ¬here x) → queue.length < 32 →
      (∀ x ∈ before, frameEarlier f x.stamp = false) → (∀ x ∈ after.take 1, frameEarlier f x.stamp = true) →
      ∃ k : Option (Fin 8),
        d' = { d with
          engine := { d.engine with
            queue := before ++ [⟨l, f, 1, d.power.band, k⟩] ++ after, pool := d'.engine.pool,
            tallyNow := d'.engine.tallyNow, tallyBefore := d'.engine.tallyBefore },
          link := { d.link with disturbs := d'.link.disturbs } } ∧
        (k = none → d'.engine.pool = d.engine.pool ∧ (known ∨ ∀ j : Fin 8, d.engine.pool[j] ≠ .free)) ∧
        ∀ j : Fin 8, k = some j → ¬known ∧ d.engine.pool[j] = .free ∧
          (∀ m : Fin 8, m < j → d.engine.pool[m] ≠ .free) ∧
          d'.engine.pool = d.engine.pool.set j (.linked conditions)) ∧
    (∀ (e : Entry) (rest : List Entry), queue = e :: rest → rest.length = 31 → (∀ x ∈ queue, ¬here x) →
      let settled : Device := settle e { d with engine := { d.engine with queue := rest } }
      ∃ early : Device, d' = takeEvent l f early ∧ occurred settled.causes early.causes 7 ∧
        early = { settled with
          causes := early.causes, link := { settled.link with notices := early.link.notices },
          engine := { settled.engine with earlySettles := settled.engine.earlySettles + 1 } }) ∧
    d'.engine.tallyNow = (if f = d.link.frame then grown d.engine.tallyNow else d.engine.tallyNow) ∧
    d'.engine.tallyBefore = (if f = d.link.frame - 1 then grown d.engine.tallyBefore else d.engine.tallyBefore) ∧
    (¬bursts ∨ d.link.mode = .listenOnly → d'.link.disturbs = d.link.disturbs) ∧
    (bursts → d.link.mode ≠ .listenOnly →
      ((∃ e ∈ d.link.disturbs, e.frame = f) →
        d'.link.disturbs = d.link.disturbs.map fun e => if e.frame = f then { e with burst := true } else e) ∧
      ((∀ e ∈ d.link.disturbs, e.frame ≠ f) → d'.link.disturbs =
        if f = d.link.frame then d.link.disturbs ++ [⟨f, false, true⟩] else ⟨f, false, true⟩ :: d.link.disturbs))

/-- A lane's stimulus pins show its current vector exactly while board power is ON and the lane is PLAYING or
FINISHING, and its park vector otherwise. So a step event that drives a VECTOR with power ON shows it, and after a
PAUSE, an ABORT and a RESTART that are executed every lane shows its park vector. -/
def Obligations.StimulusPinsShowVectorOrPark : Prop :=
  (∀ (d : Device) (i : LaneId),
    let open_ : Prop := d.power.state = .on ∧ ((lane d i).state = .playing ∨ (lane d i).state = .finishing)
    (open_ → stimulusPins d i = (lane d i).vector) ∧ (¬open_ → stimulusPins d i = (lane d i).park)) ∧
  (∀ (s : State) (i : LaneId) (b : Byte) (due : Nat), (lane s.toDevice i).state.going = true →
    (lane s.toDevice i).timer = .running due → (lane s.toDevice i).holdLeft = 0 → (lane s.toDevice i).position < 32768 →
    s.power.state = .on →
    let w : Word := patternRead s.pattern (lane s.toDevice i).position
    w.toNat / 4096 = 1 →
    ∃ t, exec (.stepTimerExpiry i b) s = .next t ∧ stimulusPins t.toDevice i = w.setWidth 8 ∧
      ∀ j : LaneId, j ≠ i → stimulusPins t.toDevice j = stimulusPins s.toDevice j) ∧
  ∀ (s : State) (seq : Byte), hasRoom s →
    (s.job.state = .running → ∃ t, exec (.pause seq []) s = .next t ∧
      ∀ i : LaneId, stimulusPins t.toDevice i = (lane s.toDevice i).park) ∧
    (s.job.state.active = true → ∃ t, exec (.abort seq []) s = .next t ∧
      ∀ i : LaneId, stimulusPins t.toDevice i = (lane s.toDevice i).park) ∧
    ∃ t, exec (.restart seq []) s = .next t ∧ ∀ i : LaneId, stimulusPins t.toDevice i = (lane s.toDevice i).park

/-! ## The dwell -/

/-- The end of a dwell gives a power request, taken in the state the sequencer is in, and awaits ON; without a dwell
nothing happens, which is the model's reading of the row (log entry 5). At a mark a running countdown falls by 1, and
the dwell ends where it reaches 0; in any other phase the mark leaves it. -/
def Obligations.DwellCountsDownAndEnds : Prop :=
  ∀ s : State,
    let ended : State := { s with
      job := { s.job with phase := some .awaitingOn, dwell := none },
      power := { s.power with
        state := if s.power.state = .off ∨ s.power.state = .tripped then .asking else s.power.state,
        pendingRequest := if s.power.state = .falling then true else s.power.pendingRequest } }
    (s.job.phase = some .dwelling → exec .dwellEnd s = .next ended) ∧
    (s.job.phase ≠ some .dwelling → exec .dwellEnd s = .next s ∧ dwellMark s.toDevice = s.toDevice) ∧
    ∀ k : Nat, s.job.phase = some .dwelling → s.job.dwell = some k →
      (k ≤ 1 → dwellMark s.toDevice = ended.toDevice) ∧
      (1 < k → dwellMark s.toDevice = { s.toDevice with job := { s.job with dwell := some (k - 1) } })

/-! ## Command items -/

/-- An item that finds eight replies queued only adds REPLY-OVERFLOW to the error summary; with room, an item of
unknown kind is answered UNKNOWN and one of the wrong argument length RANGE, and neither is executed. The capture
pins are as a START or a RESUME presents them, and stand with every other item. -/
def Obligations.ItemsThatAreNotExecuted : Prop :=
  (∀ (c : Instr) (kind seq : Byte) (args : List Byte) (s : State), itemParts c = some (kind, seq, args) →
    let pins : CapturePins := presented c s.pins
    (8 ≤ s.bench.replies.length → exec c s =
      .next { s with link := { s.link with errors := s.link.errors ||| 0x200 }, pins := pins }) ∧
    (hasRoom s → rightLength kind args = false → exec c s =
      .next { answeredBare s kind seq .range with pins := pins })) ∧
  ∀ (kind seq : Byte) (args : List Byte) (s : State), kind.toNat = 0 ∨ 24 < kind.toNat →
    (8 ≤ s.bench.replies.length → exec (.unknownCommand kind seq args) s =
      .next { s with link := { s.link with errors := s.link.errors ||| 0x200 } }) ∧
    (hasRoom s → exec (.unknownCommand kind seq args) s = .next (answeredBare s kind seq .unknown))

/-- LOAD: a count outside 1 to 30, or a last address above 32,767, is refused RANGE, and otherwise a lane that reads
pattern memory makes it BUSY; with no refusal every word stands at its address and all other words are kept. -/
def Obligations.LoadWritesItsWords : Prop :=
  ∀ (s : State) (seq : Byte) (args : List Byte), hasRoom s → patternWf s.pattern = true → 3 ≤ args.length →
    args.length = 3 + 2 * nat8 args 2 →
    let first := nat16 args 0
    let count := nat8 args 2
    let fits := 1 ≤ count ∧ count ≤ 30 ∧ first + count - 1 ≤ 32767
    let running := ∃ i : LaneId, (lane s.toDevice i).state = .playing ∨ (lane s.toDevice i).state = .finishing ∨
      (lane s.toDevice i).state = .held
    (¬fits → exec (.load seq args) s = .next (answeredBare s 0x01 seq .range)) ∧
    (fits → running → exec (.load seq args) s = .next (answeredBare s 0x01 seq .busy)) ∧
    (fits → ¬running → ∃ m, exec (.load seq args) s =
        .next { answeredBare s 0x01 seq .accepted with pattern := m } ∧
      ∀ a, patternRead m a =
        if first ≤ a ∧ a < first + count then BitVec.ofNat 16 (nat16 args (3 + 2 * (a - first)))
        else patternRead s.pattern a)

/-- JOB-LANES: refused STATE in an active state, RANGE for an enable mask outside 1 to 15 or a lane start above
32,767; otherwise its five settings are replaced, the rise window and retries as clamped, the cycle count is 0, the
job is set, and an EMPTY job becomes READY. -/
def Obligations.JobLanesSetsTheJob : Prop :=
  ∀ (s : State) (seq : Byte) (args : List Byte), hasRoom s → args.length = 13 →
    let mask := nat8 args 8
    let badRange := mask < 1 ∨ 15 < mask ∨ ∃ i : LaneId, 32767 < nat16 args (2 * i.val)
    let window := if nat8 args 11 < 4 then 4 else if 64 < nat8 args 11 then 64 else nat8 args 11
    let retries := if 3 < nat8 args 12 then 3 else nat8 args 12
    let reason := if window ≠ nat8 args 11 ∨ retries ≠ nat8 args 12 then Reason.clamped else Reason.accepted
    (s.job.state.active = true → exec (.jobLanes seq args) s = .next (answeredBare s 0x02 seq .state)) ∧
    (s.job.state.active = false → badRange →
      exec (.jobLanes seq args) s = .next (answeredBare s 0x02 seq .range)) ∧
    (s.job.state.active = false → ¬badRange → exec (.jobLanes seq args) s =
      .next { answeredBare s 0x02 seq reason with
        job := { s.job with starts := Vector.ofFn fun i => nat16 args (2 * i.val),
                            mask := some (BitVec.ofNat 4 mask), target := some (nat16 args 9), retries := retries,
                            cycles := 0, jobSet := true,
                            state := if s.job.state = .empty then .ready else s.job.state },
        power := { s.power with settings := { s.power.settings with riseWindow := window } } })

/-- JOB-RAILS: a named window whose low is above its high, as clamped, is refused RANGE. Otherwise, in RUNNING,
PAUSED, CYCLING and RECOVERING the named settings are staged and nothing is in force; in any other state they are in
force at once, every run is 0 where any is named, and the staged set stands. -/
def Obligations.JobRailsStagesOrSets : Prop :=
  ∀ (s : State) (seq : Byte) (args : List Byte), hasRoom s → args.length = 21 →
    let names := nat8 args 0
    let low := fun r : RailId => min 16383 (nat16 args (1 + 4 * r.val))
    let high := fun r : RailId => min 16383 (nat16 args (3 + 4 * r.val))
    let inrush := min 16383 (nat16 args 17)
    let run := min 16383 (nat16 args 19)
    let badWindow := ∃ r : RailId, names.testBit r.val = true ∧ high r < low r
    let clamped := (∃ r : RailId, names.testBit r.val = true ∧
        (16383 < nat16 args (1 + 4 * r.val) ∨ 16383 < nat16 args (3 + 4 * r.val))) ∨
      (names.testBit 4 = true ∧ 16383 < nat16 args 17) ∨ (names.testBit 5 = true ∧ 16383 < nat16 args 19)
    (badWindow → exec (.jobRails seq args) s = .next (answeredBare s 0x03 seq .range)) ∧
    (¬badWindow → ∃ t reason, exec (.jobRails seq args) s = .next t ∧
      t = { answeredBare s 0x03 seq reason with job := { s.job with staged := t.job.staged }, power := t.power } ∧
      (reason = .clamped ∧ clamped ∨ reason = .accepted ∧ ¬clamped) ∧
      (s.job.state.staging = true → t.power = s.power ∧
        (∀ r : RailId, t.job.staged.windows[r] =
          if names.testBit r.val then some ⟨low r, high r⟩ else s.job.staged.windows[r]) ∧
        t.job.staged = { s.job.staged with
          windows := t.job.staged.windows,
          inrush := if names.testBit 4 then some inrush else s.job.staged.inrush,
          run := if names.testBit 5 then some run else s.job.staged.run }) ∧
      (s.job.state.staging = false → t.job = s.job ∧
        (∀ r : RailId, t.power.settings.windows[r] =
          if names.testBit r.val then ⟨low r, high r⟩ else s.power.settings.windows[r]) ∧
        t.power = { s.power with
          settings := { s.power.settings with
            windows := t.power.settings.windows,
            inrush := if names.testBit 4 then inrush else s.power.settings.inrush,
            run := if names.testBit 5 then run else s.power.settings.run },
          rails := t.power.rails, currentRun := if names % 64 = 0 then s.power.currentRun else 0 } ∧
        ∀ r : RailId, t.power.rails[r] =
          if names % 64 = 0 then s.power.rails[r] else { s.power.rails[r] with run := 0, first := none }))

/-- JOB-LIMITS, which is never refused for its values: the named settings, as clamped, are staged in RUNNING, PAUSED,
CYCLING and RECOVERING, and otherwise in force at once, where hot_at is raised to warm_at + 8 if a threshold is
named and the pair breaks it. -/
def Obligations.JobLimitsStagesOrSets : Prop :=
  ∀ (s : State) (seq : Byte) (args : List Byte), hasRoom s → args.length = 9 →
    let names := nat8 args 0
    let warm := max (-80) (min 300 (int16 args 1))
    let hot := if names.testBit 0 then max (warm + 8) (min 308 (int16 args 3)) else min 308 (int16 args 3)
    let dwell := max 8 (nat8 args 8)
    let clamped := (names.testBit 0 = true ∧ warm ≠ int16 args 1) ∨ (names.testBit 1 = true ∧ hot ≠ int16 args 3) ∨
      (names.testBit 4 = true ∧ dwell ≠ nat8 args 8)
    let newWarm := if names.testBit 0 then warm else s.power.settings.warmAt
    let newHot := if names.testBit 1 then hot else s.power.settings.hotAt
    ∃ t reason, exec (.jobLimits seq args) s = .next t ∧
      t = { answeredBare s 0x04 seq reason with job := t.job, power := t.power } ∧
      (reason = .clamped ∧ clamped ∨ reason = .accepted ∧ ¬clamped) ∧
      (s.job.state.staging = true → t.power = s.power ∧
        t.job = { s.job with staged := { s.job.staged with
          warmAt := if names.testBit 0 then some warm else s.job.staged.warmAt,
          hotAt := if names.testBit 1 then some hot else s.job.staged.hotAt,
          rackLimit := if names.testBit 2 then some (nat16 args 5) else s.job.staged.rackLimit,
          period := if names.testBit 3 then some (nat8 args 7) else s.job.staged.period,
          offDwell := if names.testBit 4 then some dwell else s.job.staged.offDwell } }) ∧
      (s.job.state.staging = false →
        t.job = { s.job with rackLimit := if names.testBit 2 then nat16 args 5 else s.job.rackLimit,
                             period := if names.testBit 3 then nat8 args 7 else s.job.period,
                             offDwell := if names.testBit 4 then dwell else s.job.offDwell } ∧
        t.power = { s.power with settings := { s.power.settings with
          warmAt := newWarm,
          hotAt := if names.testBit 0 || names.testBit 1 then max newHot (newWarm + 8)
                   else s.power.settings.hotAt } })

/-- JOB-CAUSES: the named floor and levels, those above 7 as 7, are staged in RUNNING, PAUSED, CYCLING and RECOVERING,
and otherwise in force at once, where every cause that then passes the notice test has its notice queued, but in
LISTEN-ONLY. -/
def Obligations.JobCausesStagesOrSets : Prop :=
  ∀ (s : State) (seq : Byte) (args : List Byte), hasRoom s → args.length = 18 →
    let names := nat16 args 0
    let floor := min 7 (nat8 args 2)
    let level := fun i : Fin 15 => min 7 (nat8 args (3 + i.val))
    let clamped := (names.testBit 0 = true ∧ 7 < nat8 args 2) ∨
      ∃ i : Fin 15, names.testBit (i.val + 1) = true ∧ 7 < nat8 args (3 + i.val)
    ∃ t reason, exec (.jobCauses seq args) s = .next t ∧
      t = { answeredBare s 0x05 seq reason with
              job := { s.job with staged := t.job.staged }, causes := t.causes,
              link := { s.link with notices := t.link.notices } } ∧
      (reason = .clamped ∧ clamped ∨ reason = .accepted ∧ ¬clamped) ∧
      (s.job.state.staging = true → t.causes = s.causes ∧ t.link = s.link ∧
        t.job.staged = { s.job.staged with
          levels := t.job.staged.levels,
          floor := if names.testBit 0 then some floor else s.job.staged.floor } ∧
        ∀ i : Fin 15, t.job.staged.levels[i] =
          if names.testBit (i.val + 1) then some (level i) else s.job.staged.levels[i]) ∧
      (s.job.state.staging = false → t.job = s.job ∧
        t.causes.floor = (if names.testBit 0 then floor else s.causes.floor) ∧
        (∀ i : Fin 15, t.causes.records[i] = { s.causes.records[i] with
          level := if names.testBit (i.val + 1) then level i else s.causes.records[i].level }) ∧
        (s.link.mode = .listenOnly ∨ names = 0 → t.link = s.link) ∧
        (s.link.mode ≠ .listenOnly → names ≠ 0 → ∀ i : Fin 15,
          t.link.notices.getLsbD (i.val + 1) = (s.link.notices.getLsbD (i.val + 1) ||
            decide (t.causes.records[i].flag = true ∧ t.causes.records[i].notified = false ∧
              1 ≤ t.causes.records[i].level ∧ t.causes.floor ≤ t.causes.records[i].level))))

/-- START is refused STATE in EMPTY and in every active state. Otherwise the counts and the verdict of the job are
cleared, and every ever-failed flag; without the keep flag the table is cleared; and the job enters POWERING with a
power request given. On a board already ON the job, so cleared, goes on to power ON reached in the same handling. Power
ON reached in POWERING, and in CYCLING and RECOVERING awaiting ON, makes the job RUNNING and starts each enabled lane in
lane order: at its lane start, afresh, with its window abandoned, it becomes PLAYING and takes its first sample and code
run, after which its timer is loaded where it still goes; in any other state nothing is done. A start without power ON
leaves the lane STOPPED. That what the first step events set off waits until all the lanes are started is the model's
choice (log entry 6). -/
def Obligations.StartBeginsTheJob : Prop :=
  (∀ d : Device,
    let awaits : Prop := d.job.state = .powering ∨
      ((d.job.state = .cycling ∨ d.job.state = .recovering) ∧ d.job.phase = some .awaitingOn)
    let named : List LaneId := (List.finRange 4).filter fun i => (d.job.mask.getD 0).getLsbD i.val
    let r : Device × List Deferred :=
      startLanes named { d with job := { d.job with state := .running, phase := none } }
    (¬awaits → jobPowerOn d = d) ∧ (awaits → jobPowerOn d = deliver r.2 r.1) ∧ startLanes [] d = (d, []) ∧
    ∀ (i : LaneId) (rest : List LaneId),
      let one : Device × List Deferred := startLane i d
      let others : Device × List Deferred := startLanes rest one.1
      let begun : Device := laneStarted i .playing d
      let sampled : Device := { begun with
        captures := d.captures.set i { capture d i with window := none, sample := d.pins[i] } }
      let ran : Device × List Deferred := codeRun true i 64 sampled
      startLanes (i :: rest) d = (others.1, one.2 ++ others.2) ∧
      (d.power.state ≠ .on → one = (laneStarted i .stopped d, [.report])) ∧
      (d.power.state = .on → (lane ran.1 i).state.going = false → one = (ran.1, ran.2 ++ [.report])) ∧
      (d.power.state = .on → (lane ran.1 i).state.going = true → one = ({ ran.1 with
        lanes := ran.1.lanes.set i { lane ran.1 i with timer := .running (ran.1.now + (lane ran.1 i).period) } },
        ran.2))) ∧
  ∀ (s : State) (seq keep : Byte) (pins : CapturePins), hasRoom s →
    let startable := s.job.state = .ready ∨ s.job.state = .concluded ∨ s.job.state = .aborted
    (¬startable → exec (.start seq [keep] pins) s = .next { answeredBare s 0x06 seq .state with pins := pins }) ∧
    (startable → s.power.state ≠ .on → exec (.start seq [keep] pins) s =
      .next { answeredBare s 0x06 seq .accepted with
        pins := pins,
        job := { s.job with state := .powering, cycles := 0, retriesUsed := 0, rackEvents := 0, verdict := .none,
                            closing := none, finishDue := false, phase := none, dwell := none },
        captures := Vector.ofFn fun i => { s.captures[i] with everFailed := false },
        engine := if keep = 0 then { Engine.cold with tallyNow := s.engine.tallyNow,
                                                      tallyBefore := s.engine.tallyBefore } else s.engine,
        power := { s.power with
          state := if s.power.state = .off ∨ s.power.state = .tripped then .asking else s.power.state,
          pendingRequest := if s.power.state = .falling then true else s.power.pendingRequest } }) ∧
    (startable → s.power.state = .on → ∃ t, exec (.start seq [keep] pins) s = .next t ∧
      t = { s with toDevice := { jobPowerOn { s.toDevice with
        pins := pins,
        job := { s.job with state := .powering, cycles := 0, retriesUsed := 0, rackEvents := 0, verdict := .none,
                            closing := none, finishDue := false, phase := none, dwell := none },
        captures := Vector.ofFn fun i => { s.captures[i] with everFailed := false },
        engine := if keep = 0 then { Engine.cold with tallyNow := s.engine.tallyNow,
                                                      tallyBefore := s.engine.tallyBefore } else s.engine } with
        bench := t.bench } } ∧
      t.job.state.active = true ∧ t.job.state ≠ .powering ∧ t.job.verdict = .none ∧ t.job.retriesUsed = 0 ∧
      (answeredBare s 0x06 seq .accepted).bench = t.bench ∧ t.pattern = s.pattern ∧ t.view = s.view ∧
      t.pins = pins ∧
      (∀ i : LaneId, enabled s.toDevice i = true → (capture t.toDevice i).sample = pins[i]) ∧
      (t.job.state = .running → ∀ i : LaneId, enabled s.toDevice i = true →
        (lane t.toDevice i).state = .playing ∨ (lane t.toDevice i).state = .stopped ∨
          (lane t.toDevice i).state = .faulted))

/-- PAUSE in RUNNING makes the job PAUSED and every playing or finishing lane HELD, its state to return to kept and
its timer frozen with the time it had left; every other lane, the windows and the board power stand. In any other
state it is refused STATE. That the time left is measured at the moment of the latest timed event is the model's
choice (log entry 2). -/
def Obligations.PauseHoldsTheLanes : Prop :=
  ∀ (s : State) (seq : Byte), hasRoom s →
    (s.job.state = .running → ∃ t, exec (.pause seq []) s = .next t ∧
      t = { answeredBare s 0x07 seq .accepted with job := { s.job with state := .paused }, lanes := t.lanes } ∧
      ∀ i : LaneId, lane t.toDevice i =
        let l := lane s.toDevice i
        let left := match l.timer with
          | .running due => due - s.now
          | .frozen left => left
          | .stopped => 0
        match l.state with
        | .playing => { l with state := .held, resume := some .playing, timer := .frozen left }
        | .finishing => { l with state := .held, resume := some .finishing, timer := .frozen left }
        | _ => l) ∧
    (s.job.state ≠ .running → exec (.pause seq []) s = .next (answeredBare s 0x07 seq .state))

/-- RESUME in PAUSED, with the finish-due mark clear: the job is RUNNING, and each HELD lane goes on in the state it
left with the time it had left, or is STOPPED where power is not ON; an enabled lane frozen with no time left takes its
step event at once. In any other state it is refused STATE. With the mark set, the job enters CLOSING for TARGET while
an enabled lane is still to finish; that it does so before the lanes resume is the model's choice (log entry 6), and
so is that the timer then runs out the time left from the moment of the latest timed event (log entry 2). Of the lanes
frozen with no time left only the sample is stated. -/
def Obligations.ResumeReleasesTheLanes : Prop :=
  ∀ (s : State) (seq : Byte) (pins : CapturePins), hasRoom s →
    (s.job.state ≠ .paused → exec (.resume seq [] pins) s =
      .next { answeredBare s 0x08 seq .state with pins := pins }) ∧
    (s.job.state = .paused → s.job.finishDue = false → s.power.state = .on →
      ∃ t, exec (.resume seq [] pins) s = .next t ∧ t.pins = pins ∧
        ∀ i : LaneId, enabled s.toDevice i = true → (lane s.toDevice i).state = .held →
          (lane s.toDevice i).timer = .frozen 0 → (capture t.toDevice i).sample = pins[i]) ∧
    (s.job.state = .paused →
      (∀ i : LaneId, (lane s.toDevice i).state = .held → ∃ left, (lane s.toDevice i).timer = .frozen (left + 1)) →
      ∃ t, exec (.resume seq [] pins) s = .next t ∧
        (s.job.finishDue = false →
          t = { answeredBare s 0x08 seq .accepted with
                  pins := pins, job := { s.job with state := .running }, lanes := t.lanes,
                  captures := t.captures } ∧
          (s.power.state = .on → t.captures = s.captures)) ∧
        ((s.job.finishDue = false ∨ ∃ i : LaneId, enabled s.toDevice i = true ∧ (lane s.toDevice i).state = .held) →
          (∀ i : LaneId, (lane s.toDevice i).state ≠ .held → lane t.toDevice i = lane s.toDevice i) ∧
          ∀ (i : LaneId) (left : Nat), (lane s.toDevice i).state = .held →
            (lane s.toDevice i).timer = .frozen left →
            lane t.toDevice i =
              if s.power.state = .on then
                { lane s.toDevice i with
                    state := if (lane s.toDevice i).resume = some .finishing then .finishing else .playing,
                    resume := none, timer := .running (s.now + left) }
              else { lane s.toDevice i with state := .stopped, resume := none, holdLeft := 0, timer := .stopped }) ∧
        (s.job.finishDue = true → s.power.state = .on →
          (∃ i : LaneId, enabled s.toDevice i = true ∧ (lane s.toDevice i).state = .held) →
          tookSettings s.job.staged s.toDevice t.toDevice ∧
          t.job = { s.job with state := .closing, closing := some .target, finishDue := false, phase := none,
                               dwell := none, staged := NamedSettings.none, rackLimit := t.job.rackLimit,
                               period := t.job.period, offDwell := t.job.offDwell }))

/-- ABORT in an active state stops every playing, finishing and held lane, opens the switch, empties the staged set
into force unless the job is CLOSING already, and leaves the job in CLOSING, or past it where the board was not
powered or falling and no entry waits. In any other state it is refused STATE. -/
def Obligations.AbortClosesTheJob : Prop :=
  ∀ (s : State) (seq : Byte), hasRoom s → s.power.switchClosed = s.power.state.closed →
    (s.job.state.active = false → exec (.abort seq []) s = .next (answeredBare s 0x09 seq .state)) ∧
    (s.job.state.active = true → ∃ t, exec (.abort seq []) s = .next t ∧
      t.bench = (answeredBare s 0x09 seq .accepted).bench ∧ t.power.switchClosed = false ∧
      t.power.state = (if s.power.state.closed ∨ s.power.state = .falling then .falling else .off) ∧
      (∀ i : LaneId, (lane s.toDevice i).state.reading = true →
        lane t.toDevice i = { lane s.toDevice i with state := .stopped, resume := none, holdLeft := 0,
                                                     timer := .stopped } ∧
        capture t.toDevice i = { capture s.toDevice i with window := none }) ∧
      (∀ i : LaneId, (lane s.toDevice i).state.reading = false →
        lane t.toDevice i = lane s.toDevice i ∧ capture t.toDevice i = capture s.toDevice i) ∧
      (t.power.state = .falling ∨ s.engine.queue ≠ [] → t.job.state = .closing ∧
        t.job.closing = some (if s.job.closing = some .exhausted then .exhausted else .aborted)) ∧
      (t.power.state = .off → s.engine.queue = [] → t.job.state = .aborted ∧ t.job.closing = none) ∧
      t.job.finishDue = (if s.job.state = .closing then s.job.finishDue else false) ∧
      (s.job.state ≠ .closing → tookSettings s.job.staged s.toDevice t.toDevice ∧ t.job.phase = none ∧
        t.job.dwell = none) ∧
      (s.job.state = .closing → t.power.settings = s.power.settings ∧ t.causes.floor = s.causes.floor ∧
        (∀ i : Fin 15, t.causes.records[i].level = s.causes.records[i].level) ∧
        t.job = { s.job with state := t.job.state, closing := t.job.closing, verdict := t.job.verdict }) ∧
      t.engine = s.engine ∧ t.pattern = s.pattern ∧ t.view = s.view ∧ t.pins = s.pins ∧ t.pending = s.pending ∧
      t.link = { s.link with notices := t.link.notices })

/-- POWER: an argument other than on and off is refused RANGE, and an active job makes it STATE, either of the two
where both hold. Otherwise on and off are the power request and the power-off request of R48's table, and power
leaving ON stops the going lanes; the job stands. -/
def Obligations.PowerGivesRequests : Prop :=
  ∀ (s : State) (seq arg : Byte), hasRoom s →
    (1 < arg.toNat → s.job.state.active = false →
      exec (.power seq [arg]) s = .next (answeredBare s 0x0A seq .range)) ∧
    (1 < arg.toNat → s.job.state.active = true →
      exec (.power seq [arg]) s = .next (answeredBare s 0x0A seq .range) ∨
        exec (.power seq [arg]) s = .next (answeredBare s 0x0A seq .state)) ∧
    (arg.toNat ≤ 1 → s.job.state.active = true →
      exec (.power seq [arg]) s = .next (answeredBare s 0x0A seq .state)) ∧
    (arg = 1 → s.job.state.active = false → exec (.power seq [arg]) s =
      .next { answeredBare s 0x0A seq .accepted with power := { s.power with
        state := if s.power.state = .off ∨ s.power.state = .tripped then .asking else s.power.state,
        pendingRequest := if s.power.state = .falling then true else s.power.pendingRequest } }) ∧
    (arg = 0 → s.job.state.active = false → ∃ t, exec (.power seq [arg]) s = .next t ∧
      t = { answeredBare s 0x0A seq .accepted with power := t.power, lanes := t.lanes, captures := t.captures } ∧
      (match s.power.state with
       | .off => t.power = s.power
       | .asking => t.power = { s.power with state := .off }
       | .tripped => t.power = { s.power with state := .off }
       | .falling => t.power = { s.power with pendingRequest := false }
       | .rising | .on => t.power = { s.power with
            state := .falling, switchClosed := false, riseEnd := none,
            fallCount := 0, currentRun := 0, rails := t.power.rails } ∧
          ∀ r : RailId, t.power.rails[r] = { s.power.rails[r] with run := 0, first := none }) ∧
      ∀ i : LaneId,
        if s.power.state = .on ∧ (lane s.toDevice i).state.going = true then
          lane t.toDevice i = { lane s.toDevice i with state := .stopped, resume := none, holdLeft := 0,
                                                       timer := .stopped } ∧
          capture t.toDevice i = { capture s.toDevice i with window := none }
        else lane t.toDevice i = lane s.toDevice i ∧ capture t.toDevice i = capture s.toDevice i)

/-- CLEAR-TABLE is refused STATE while the job is active; otherwise every record, entry and snapshot goes, the header
counters are as after cold start, and the burst tallies and everything else stand. That it does so on a table without
records too, where entries are queued or counters nonzero, is the model's choice (log entry 19). PIN and UNPIN of a
serial: RANGE where no record has it; a record's pin is set only while fewer than 8 are pinned, and RANGE otherwise; a
pin already as asked is ACCEPTED without effect; no other record and no other field changes. -/
def Obligations.TableIsClearedAndPinned : Prop :=
  (∀ (s : State) (seq : Byte), hasRoom s →
    (s.job.state.active = true → exec (.clearTable seq []) s = .next (answeredBare s 0x0B seq .state)) ∧
    (s.job.state.active = false → ∃ t, exec (.clearTable seq []) s = .next t ∧
      t = { answeredBare s 0x0B seq .accepted with engine := t.engine } ∧ t.engine.queue = [] ∧
      t.engine.table = [] ∧ (∀ k : Fin 8, t.engine.pool[k] = .free) ∧ t.engine.nextSerial = 1 ∧
      t.engine.rackEvents = 0 ∧ t.engine.overflows = 0 ∧ t.engine.earlySettles = 0 ∧ t.engine.evictions = 0 ∧
      t.engine.tallyNow = s.engine.tallyNow ∧ t.engine.tallyBefore = s.engine.tallyBefore)) ∧
  ∀ (s : State) (seq : Byte) (args : List Byte), hasRoom s → args.length = 4 → TableInv s.engine →
    let serial : Nat := nat32 args 0
    ((∀ r ∈ s.engine.table, r.serial ≠ serial) →
      exec (.pin seq args) s = .next (answeredBare s 0x0C seq .range) ∧
      exec (.unpin seq args) s = .next (answeredBare s 0x0D seq .range)) ∧
    ∀ r ∈ s.engine.table, r.serial = serial →
      (r.pinned = true → exec (.pin seq args) s = .next (answeredBare s 0x0C seq .accepted)) ∧
      (r.pinned = false → 8 ≤ (s.engine.table.filter fun x => x.pinned).length →
        exec (.pin seq args) s = .next (answeredBare s 0x0C seq .range)) ∧
      (r.pinned = false → (s.engine.table.filter fun x => x.pinned).length < 8 →
        ∃ before after : List SuspectRecord, s.engine.table = before ++ [r] ++ after ∧ exec (.pin seq args) s =
          .next { answeredBare s 0x0C seq .accepted with
            engine := { s.engine with table := before ++ [{ r with pinned := true }] ++ after } }) ∧
      ∃ before after : List SuspectRecord, s.engine.table = before ++ [r] ++ after ∧ exec (.unpin seq args) s =
        .next { answeredBare s 0x0D seq .accepted with
          engine := { s.engine with table := before ++ [{ r with pinned := false }] ++ after } }

/-- QUERY-HEADER, QUERY-CAUSES, QUERY-LANES, QUERY-JOB, QUERY-PEERS and QUERY-MONITOR are answered ACCEPTED with the
readout's bytes from the start offset onward, as many as the reply limit less 6 allows, and change nothing else; the
more-follows mark is set where bytes remain. The readouts are of 22, 46, 104, 119, 44 + 10E + 7P and 51 bytes, E being
the roster entries and P the peers. -/
def Obligations.OffsetQueriesCutReadouts : Prop :=
  ∀ (s : State) (seq hi lo : Byte), hasRoom s →
    let offset := hi.toNat * 256 + lo.toNat
    let more := fun readout : List Byte => decide (offset + (s.bench.limit - 6) < readout.length)
    let reply := fun (kind : Byte) (readout : List Byte) =>
      answered s kind seq .accepted (more readout) (cutOf readout offset s.bench.limit)
    exec (.queryHeader seq [hi, lo]) s = .next (reply 0x0E (headerReadout s.engine)) ∧
    exec (.queryCauses seq [hi, lo]) s = .next (reply 0x11 (causesReadout s.toDevice)) ∧
    exec (.queryLanes seq [hi, lo]) s = .next (reply 0x13 (lanesReadout s.toDevice)) ∧
    exec (.queryJob seq [hi, lo]) s = .next (reply 0x14 (jobReadout s.toDevice)) ∧
    exec (.queryPeers seq [hi, lo]) s = .next (reply 0x15 (peersReadout s.toDevice)) ∧
    exec (.queryMonitor seq [hi, lo]) s = .next (reply 0x16 (monitorReadout s.power)) ∧
    (headerReadout s.engine).length = 22 ∧ (causesReadout s.toDevice).length = 46 ∧
    (lanesReadout s.toDevice).length = 104 ∧ (jobReadout s.toDevice).length = 119 ∧
    (monitorReadout s.power).length = 51 ∧
    (s.view.ring.length = 5 → (peersReadout s.toDevice).length =
      44 + 10 * s.view.roster.length + 7 * (if s.link.bay = 0 then 15 else 14))

/-- QUERY-TABLE answers the whole 28-byte readouts of the records from the start index onward, as many as the reply
limit less 6 holds: none from the record count on, RANGE where a record stands there and no readout fits.
QUERY-SNAPSHOT answers the 30-byte readout of the snapshot attached to the record at an index, or the record's serial
and a mark of 0 where it has none; it is refused RANGE at or beyond the record count, and where the readout does not
fit the reply limit. Every field of both readouts stands where the layouts of R201 place it. Neither query changes
anything else. -/
def Obligations.TableQueriesCarryWholeReadouts : Prop :=
  (∀ (s : State) (seq first : Byte), hasRoom s →
    let fit : Nat := (s.bench.limit - 6) / 28
    let records : List SuspectRecord := s.engine.table.drop first.toNat
    (records = [] → exec (.queryTable seq [first]) s = .next (answeredBare s 0x0F seq .accepted)) ∧
    (records ≠ [] → fit = 0 → exec (.queryTable seq [first]) s = .next (answeredBare s 0x0F seq .range)) ∧
    (records ≠ [] → 0 < fit → ∃ data : List Byte, exec (.queryTable seq [first]) s =
        .next (answered s 0x0F seq .accepted (decide (fit < records.length)) data) ∧
      data.length = 28 * min fit records.length ∧
      ∀ (k : Nat) (r : SuspectRecord), k < fit → records[k]? = some r →
        recordFields (first.toNat + k) r ((data.drop (28 * k)).take 28))) ∧
  ∀ (s : State) (seq index : Byte), hasRoom s →
    (s.engine.table[index.toNat]? = none →
      exec (.querySnapshot seq [index]) s = .next (answeredBare s 0x10 seq .range)) ∧
    ∀ r : SuspectRecord, s.engine.table[index.toNat]? = some r →
      (r.snapshot = none → exec (.querySnapshot seq [index]) s =
        .next (if 11 ≤ s.bench.limit then answered s 0x10 seq .accepted false (be32 r.serial ++ [0])
               else answeredBare s 0x10 seq .range)) ∧
      ∀ (k : Fin 8) (c : Conditions), r.snapshot = some k → s.engine.pool[k] = .attached c →
        ∃ data : List Byte, snapshotFields r.serial k c data ∧
          exec (.querySnapshot seq [index]) s =
            .next (if 36 ≤ s.bench.limit then answered s 0x10 seq .accepted false data
                   else answeredBare s 0x10 seq .range)

/-- The fields of the header, causes and monitor readouts stand where the layouts of R201 place them; numbers are held
to the width of their fields. That the fall count's byte of the monitor readout is 0 in every power state but FALLING
is the model's reading (DEDUCED, log entry 11). -/
def Obligations.EngineAndMonitorReadoutFields : Prop :=
  ∀ d : Device,
    (let h : List Byte := headerReadout d.engine
     let g : Engine := d.engine
     nat8 h 0 = g.table.length % 256 ∧ nat32 h 1 = g.nextSerial % 4294967296 ∧ nat16 h 5 = g.rackEvents % 65536 ∧
       nat32 h 7 = g.overflows % 4294967296 ∧ nat32 h 11 = g.earlySettles % 4294967296 ∧
       nat32 h 15 = g.evictions % 4294967296 ∧ nat8 h 19 = g.queue.length % 256 ∧
       nat8 h 20 = ((List.finRange 8).filter fun k => decide (g.pool[k] = .free)).length ∧
       nat8 h 21 = (g.table.filter fun r => r.pinned).length % 256) ∧
    (let c : List Byte := causesReadout d
     nat8 c 0 = d.causes.floor % 256 ∧ ∀ i : Fin 15,
       nat8 c (1 + 3 * i.val) = (if d.causes.records[i].flag then 1 else 0) +
         (if d.causes.records[i].notified then 2 else 0) +
         (if d.link.notices.getLsbD (i.val + 1) then 4 else 0) ∧
       nat8 c (2 + 3 * i.val) = d.causes.records[i].count % 256 ∧
       nat8 c (3 + 3 * i.val) = d.causes.records[i].level % 256) ∧
    (let m : List Byte := monitorReadout d.power
     let p : Power := d.power
     nat8 m 0 = stateCode p.state ∧
       nat8 m 1 = (if p.switchClosed then 1 else 0) + (if p.pendingRequest then 2 else 0) +
         (if p.temperature.isSome then 4 else 0) ∧
       nat32 m 2 = (p.riseEnd.getD 0).toNat ∧ nat8 m 6 = (if p.state = .falling then p.fallCount % 256 else 0) ∧
       (∀ r : RailId, nat16 m (7 + 2 * r.val) = p.rails[r].sample % 65536 ∧
         (byteAt m 17).getLsbD r.val = p.rails[r].fullScale ∧ nat8 m (18 + r.val) = p.rails[r].run % 256 ∧
         nat16 m (26 + 4 * r.val) = p.settings.windows[r].low % 65536 ∧
         nat16 m (28 + 4 * r.val) = p.settings.windows[r].high % 65536) ∧
       nat16 m 15 = p.current % 65536 ∧ (byteAt m 17).getLsbD 4 = p.currentFull ∧ nat8 m 17 < 32 ∧
       nat8 m 22 = p.currentRun % 256 ∧ nat16 m 23 = ((p.temperature.getD 0) % 65536).toNat ∧
       nat8 m 25 = (match p.band with
         | .cold => 0
         | .warm => 1
         | .hot => 2) ∧
       nat16 m 42 = p.settings.inrush % 65536 ∧ nat16 m 44 = p.settings.run % 65536 ∧
       nat16 m 46 = (p.settings.warmAt % 65536).toNat ∧ nat16 m 48 = (p.settings.hotAt % 65536).toNat ∧
       nat8 m 50 = p.settings.riseWindow % 256)

/-- The fields of the lanes, job and peers readouts stand where the layouts of R201 place them; numbers are held to
the width of their fields. That a roster entry's phantom mark is sent as 1 where set and 0 where clear is the model's
choice (log entry 23). The lead lane is the lowest-numbered lane of the enable mask, and none while the job is EMPTY. -/
def Obligations.LanesJobAndPeersReadoutFields : Prop :=
  ∀ d : Device,
    (∀ i : LaneId,
      let b : List Byte := ((lanesReadout d).drop (26 * i.val)).take 26
      let l : Lane := lane d i
      let c : Capture := capture d i
      nat8 b 0 = (match l.state with
          | .idle => 0
          | .playing => 1
          | .finishing => 2
          | .held => 3
          | .stopped => 4
          | .faulted => 5) + 16 * (match l.resume with
          | none => 0
          | some .playing => 1
          | some .finishing => 2) ∧
        nat8 b 1 = (match l.fault with
          | none => 0
          | some .undefinedCode => 1
          | some .loop => 2
          | some .stepless => 3
          | some .bounds => 4) ∧
        nat8 b 2 = (if leads d i then 1 else 0) + (if l.note.isSome then 2 else 0) +
          (if c.window.isSome then 4 else 0) + (if c.everFailed then 8 else 0) ∧
        nat16 b 3 = l.position % 65536 ∧ nat8 b 5 = l.stack.length % 256 ∧
        (∀ (bottom top : LoopEntry), l.stack = [top, bottom] → nat16 b 6 = bottom.returnTo % 65536 ∧
          nat8 b 8 = bottom.remaining % 256 ∧ nat16 b 9 = top.returnTo % 65536 ∧ nat8 b 11 = top.remaining % 256) ∧
        (∀ only : LoopEntry, l.stack = [only] → nat16 b 6 = only.returnTo % 65536 ∧
          nat8 b 8 = only.remaining % 256 ∧ nat16 b 9 = 0 ∧ nat8 b 11 = 0) ∧
        (l.stack = [] → nat16 b 6 = 0 ∧ nat8 b 8 = 0 ∧ nat16 b 9 = 0 ∧ nat8 b 11 = 0) ∧
        nat16 b 12 = l.holdLeft % 65536 ∧ byteAt b 14 = l.vector ∧ nat16 b 15 = l.period % 65536 ∧
        byteAt b 17 = l.park ∧ byteAt b 18 = l.note.getD 0 ∧ byteAt b 19 = c.sample ∧
        byteAt b 20 = c.window.getD 0 ∧ nat16 b 21 = c.signature.toNat ∧ nat16 b 23 = c.count % 65536 ∧
        nat8 b 25 = (match c.result with
          | .none => 0
          | .pass => 1
          | .fail => 2)) ∧
    (let b : List Byte := jobReadout d
     let j : Job := d.job
     nat8 b 0 = jobStateCode j.state ∧ nat8 b 1 = (if j.jobSet then 1 else 0) + (if j.finishDue then 2 else 0) ∧
       nat8 b 2 = (match j.closing with
         | none => 0
         | some .target => 1
         | some .aborted => 2
         | some .exhausted => 3) ∧
       nat8 b 3 = (match j.phase with
         | none => 0
         | some .awaitingOff => 1
         | some .dwelling => 2
         | some .awaitingOn => 3) ∧
       nat8 b 4 = (j.dwell.getD 0) % 256 ∧ nat32 b 5 = j.cycles % 4294967296 ∧ nat8 b 9 = j.retriesUsed % 256 ∧
       nat16 b 10 = j.rackEvents % 65536 ∧
       nat8 b 12 = (match j.verdict with
         | .none => 0
         | .pass => 1
         | .marginal => 2
         | .inconclusive => 3
         | .incomplete => 4
         | .fail => 5) ∧
       (∀ i : LaneId, leads d i → nat8 b 13 = i.val) ∧ ((∀ i : LaneId, ¬leads d i) → nat8 b 13 = 255) ∧
       (∀ i : LaneId, nat16 b (14 + 2 * i.val) = j.starts[i] % 65536) ∧ nat8 b 22 = (j.mask.getD 0).toNat ∧
       nat16 b 23 = (j.target.getD 0) % 65536 ∧ nat8 b 25 = d.power.settings.riseWindow % 256 ∧
       nat8 b 26 = j.retries % 256 ∧
       settingsFields (fun r => d.power.settings.windows[r]) d.power.settings.inrush d.power.settings.run
         d.power.settings.warmAt d.power.settings.hotAt j.rackLimit j.period j.offDwell d.causes.floor
         (fun i => d.causes.records[i].level) ((b.drop 27).take 44) ∧
       (∀ r : RailId, (nat32 b 71).testBit r.val = j.staged.windows[r].isSome) ∧
       (nat32 b 71).testBit 4 = j.staged.inrush.isSome ∧ (nat32 b 71).testBit 5 = j.staged.run.isSome ∧
       (nat32 b 71).testBit 6 = j.staged.warmAt.isSome ∧ (nat32 b 71).testBit 7 = j.staged.hotAt.isSome ∧
       (nat32 b 71).testBit 8 = j.staged.rackLimit.isSome ∧ (nat32 b 71).testBit 9 = j.staged.period.isSome ∧
       (nat32 b 71).testBit 10 = j.staged.offDwell.isSome ∧ (nat32 b 71).testBit 11 = j.staged.floor.isSome ∧
       (∀ i : Fin 15, (nat32 b 71).testBit (12 + i.val) = j.staged.levels[i].isSome) ∧ nat32 b 71 < 134217728 ∧
       settingsFields (fun r => j.staged.windows[r].getD ⟨0, 0⟩) (j.staged.inrush.getD 0) (j.staged.run.getD 0)
         (j.staged.warmAt.getD 0) (j.staged.hotAt.getD 0) (j.staged.rackLimit.getD 0) (j.staged.period.getD 0)
         (j.staged.offDwell.getD 0) (j.staged.floor.getD 0) (fun i => j.staged.levels[i].getD 0)
         ((b.drop 75).take 44)) ∧
    (let b : List Byte := peersReadout d
     let entries : Nat := d.view.roster.length
     let bays : List StationId := ((List.finRange 16).drop 1).filter fun k => decide (ownSlot d ≠ some k)
     nat8 b 0 = entries % 256 ∧ nat8 b 1 = bays.length ∧ nat8 b 2 = d.view.budget % 256 ∧
       nat8 b 3 = d.view.listening % 256 ∧
       (∀ (k : Nat) (e : RosterEntry), d.view.roster[k]? = some e →
         nat8 b (4 + 10 * k) = e.bay.val ∧ nat8 b (5 + 10 * k) = (if e.phantom then 1 else 0) ∧
           nat32 b (6 + 10 * k) = e.start.toNat ∧ nat32 b (10 + 10 * k) = e.finish.toNat) ∧
       (∀ (k : Nat) (bay : StationId), bays[k]? = some bay →
         let at_ : Nat := 4 + 10 * entries + 7 * k
         let p : Peer := d.view.peers[bay]
         nat8 b at_ = bay.val ∧ nat8 b (at_ + 1) = (if p.present then 1 else 0) ∧
           nat8 b (at_ + 2) = p.silent % 256 ∧ nat8 b (at_ + 3) = stateCode p.power ∧
           nat8 b (at_ + 4) = (match p.job with
             | some j => jobStateCode j
             | none => 15) ∧
           nat8 b (at_ + 5) = p.window % 256 ∧ nat8 b (at_ + 6) = (p.budget.getD 0) % 256) ∧
       ∀ (k : Nat) (e : RingEntry), d.view.ring.length = 5 → d.view.ring[k]? = some e →
         let at_ : Nat := 4 + 10 * entries + 7 * bays.length + 8 * (4 - k)
         nat32 b at_ = (d.link.frame - BitVec.ofNat 32 k).toNat ∧ nat16 b (at_ + 4) = e.disturbed.toNat ∧
           nat16 b (at_ + 6) = e.rising.toNat)

/-- CLEAR-CAUSES returns each named cause to its cold-start record apart from its level and withdraws its notice;
causes not named, with their notices, the floor and everything else stand, and a mask that names none changes
nothing. At a full reply queue it is not executed. -/
def Obligations.ClearCausesRearms : Prop :=
  ∀ (s : State) (seq : Byte) (args : List Byte), args.length = 2 →
    (8 ≤ s.bench.replies.length → exec (.clearCauses seq args) s =
      .next { s with link := { s.link with errors := s.link.errors ||| 0x200 } }) ∧
    (hasRoom s → ∃ t, exec (.clearCauses seq args) s = .next t ∧
      t = { answeredBare s 0x12 seq .accepted with
              causes := { s.causes with records := t.causes.records },
              link := { s.link with notices := t.link.notices } } ∧
      ∀ i : Fin 15,
        (if (nat16 args 0).testBit (i.val + 1) then
          t.causes.records[i] = ⟨false, 0, false, s.causes.records[i].level⟩ ∧
            t.link.notices.getLsbD (i.val + 1) = false
         else t.causes.records[i] = s.causes.records[i] ∧
            t.link.notices.getLsbD (i.val + 1) = s.link.notices.getLsbD (i.val + 1)))

/-- REPLY-LIMIT: a value from 8 to 64 becomes the limit and is ACCEPTED; below 8 it is taken as 8, above 64 as 64, and
is CLAMPED. Replies already queued and everything else stand. -/
def Obligations.ReplyLimitIsClamped : Prop :=
  ∀ (s : State) (seq v : Byte), hasRoom s →
    (8 ≤ v.toNat → v.toNat ≤ 64 → exec (.replyLimit seq [v]) s =
      .next (answeredBare { s with bench := { s.bench with limit := v.toNat } } 0x17 seq .accepted)) ∧
    (v.toNat < 8 → exec (.replyLimit seq [v]) s =
      .next (answeredBare { s with bench := { s.bench with limit := 8 } } 0x17 seq .clamped)) ∧
    (64 < v.toNat → exec (.replyLimit seq [v]) s =
      .next (answeredBare { s with bench := { s.bench with limit := 64 } } 0x17 seq .clamped))

/-- RESTART gives every block the values of the warm-restart columns, and its own reply is the one reply queued, under
a limit of 64; LISTEN-ONLY discards it. At a full reply queue it is not executed. -/
def Obligations.RestartKeepsAndClears : Prop :=
  ∀ (s : State) (seq : Byte),
    (8 ≤ s.bench.replies.length → exec (.restart seq []) s =
      .next { s with link := { s.link with errors := s.link.errors ||| 0x200 } }) ∧
    (hasRoom s → ∃ t, exec (.restart seq []) s = .next t ∧
      t = { s with link := t.link, power := t.power, lanes := t.lanes, captures := t.captures, engine := t.engine,
                   job := t.job, bench := t.bench } ∧
      t.link = { s.link with errors := 0, disturbs := [], notices := 0, collisionRun := 0 } ∧
      t.bench = ⟨if s.link.mode = .listenOnly then [] else [⟨0x18, seq, .accepted, false, []⟩], 64⟩ ∧
      t.power = { s.power with
        state := if s.power.state.closed then .falling else .off, switchClosed := false,
        pendingRequest := false, riseEnd := none, fallCount := 0, currentRun := 0, rails := t.power.rails } ∧
      (∀ r : RailId, t.power.rails[r] = { s.power.rails[r] with run := 0, first := none, excursion := false }) ∧
      (∀ i : LaneId, lane t.toDevice i = { lane s.toDevice i with
          state := .idle, resume := none, holdLeft := 0, timer := .stopped, fault := none } ∧
        capture t.toDevice i = { capture s.toDevice i with window := none }) ∧
      t.engine = { s.engine with queue := [], pool := t.engine.pool, tallyNow := ⟨[], false⟩,
                                 tallyBefore := ⟨[], false⟩ } ∧
      (∀ (k : Fin 8) (c : Conditions),
        (s.engine.pool[k] = .free → t.engine.pool[k] = .free) ∧
        (s.engine.pool[k] = .linked c → t.engine.pool[k] = .free) ∧
        (s.engine.pool[k] = .attached c → t.engine.pool[k] = .attached c)) ∧
      t.job = { s.job with state := if s.job.jobSet then .ready else .empty, staged := NamedSettings.none,
                           closing := none, finishDue := false, phase := none, dwell := none })

/-! ## The operations behind the events -/

/-- The peer view at the mark beginning frame n: entries that ended before n leave the roster, and then, slot by slot
from 1 to 15, a bay that holds no entry is given one while the roster is below the effective budget, for its ASK of
the frame before, or as a phantom where it was blind and last said ASKING. A bay is passed over for want of budget
alone. The newest ring frame holds the peers granted, but no phantom and not the bay itself; the older frames move
on; the listening countdown falls; and the frame notes begin afresh. -/
def Obligations.GrantPassFillsRoster : Prop :=
  ∀ (own : Option StationId) (n : Frame) (v : PeerView),
    let v' := viewMark own n v
    let live := v.roster.filter fun e => !frameEarlier e.finish n
    let eligible := fun b : StationId => b ≠ 0 ∧ (∀ e ∈ live, e.bay ≠ b) ∧
      (match v.notes[b] with
       | .quiet => False
       | .ask _ => True
       | .blind => v.peers[b].power = .asking)
    ∃ granted, v'.roster = live ++ granted ∧ granted.Pairwise (fun a b => a.bay < b.bay) ∧
      (∀ e ∈ granted, eligible e.bay ∧ e.start = n ∧
        match v.notes[e.bay] with
        | .quiet => False
        | .ask w => e.phantom = false ∧ e.finish = n + BitVec.ofNat 32 w
        | .blind => e.phantom = true ∧ e.finish = n + BitVec.ofNat 32 v.peers[e.bay].window) ∧
      (granted = [] ∨ live.length + granted.length ≤ v.budget) ∧
      (∀ b : StationId, eligible b → (∀ e ∈ granted, e.bay ≠ b) →
        v.budget ≤ live.length + granted.countP fun e => decide (e.bay < b)) ∧
      (∃ newest : RingEntry, v'.ring = newest :: v.ring.take 4 ∧ newest.disturbed = 0 ∧
        ∀ b : StationId, newest.rising.getLsbD b.val = true ↔
          own ≠ some b ∧ ∃ e ∈ granted, e.bay = b ∧ e.phantom = false) ∧
      v'.listening = v.listening - 1 ∧ (∀ b : StationId, v'.notes[b] = .quiet) ∧ v'.peers = v.peers ∧
      v'.budget = v.budget

/-- A settle. With a coincidence count of 3 or more the entry is a rack event, no record is touched and its snapshot is
freed. With 2 or less and a record of its locus, the record takes the repeat count, the band, the increment of R122,
the stamp and the count, its five counters halved first where the opportunities would pass 65,535; it is latched at
2,048, and no other record changes. Without a record one is made at the end of the table. In a full table the record
that is neither pinned nor latched and has the lowest score below 256, and of those the lowest serial, makes room; with
no such record the entry is dropped as TABLE-OVERFLOW. -/
def Obligations.SettleScoresOrCountsRack : Prop :=
  ∀ (d : Device) (e : Entry), TableInv d.engine →
    let c : Nat := (List.range 16).countP fun b =>
      ([e.stamp - 1, e.stamp, e.stamp + 1].any fun f =>
        (ringAt d.view.ring d.link.frame f).disturbed.getLsbD b || (ringAt d.view.ring d.link.frame f).rising.getLsbD b)
    let base : Nat := match e.locus with
      | .strobe _ _ _ => 64
      | .signature _ _ => 48
      | .glitch _ => 40
      | .trip _ => 512
    let gain : Nat := if c = 0 then base else if c = 1 then base / 2 else base / 4
    let d' : Device := settle e d
    let fresh : SuspectRecord :=
      { serial := d.engine.nextSerial, locus := e.locus, firstStamp := e.stamp, lastStamp := e.stamp, lastCount := c,
        score := gain, hits := e.occurrences, opportunities := e.occurrences,
        cold := if e.band = .cold then e.occurrences else 0, warm := if e.band = .warm then e.occurrences else 0,
        hot := if e.band = .hot then e.occurrences else 0, latch := false, pinned := false, snapshot := e.snapshot }
    let mayGo : SuspectRecord → Prop := fun r => r.pinned = false ∧ r.latch = false ∧ r.score < 256
    (3 ≤ c → d'.engine.table = d.engine.table ∧ d'.engine.rackEvents = min 65535 (d.engine.rackEvents + 1) ∧
      occurred d.causes d'.causes 9 ∧ (∀ k : Fin 8, e.snapshot = some k → d'.engine.pool[k] = .free) ∧
      d'.job = { d.job with rackEvents :=
        if d.job.state.active then min 65535 (d.job.rackEvents + 1) else d.job.rackEvents }) ∧
    (c ≤ 2 → ∀ (before after : List SuspectRecord) (r : SuspectRecord),
      d.engine.table = before ++ [r] ++ after → r.locus = e.locus →
      let half : Nat → Nat := fun x => if 65535 < r.opportunities + e.occurrences then x / 2 else x
      let score : Nat := min 65535 (r.score + gain)
      d'.engine.table = before ++ [{ r with
        hits := half r.hits + e.occurrences, opportunities := half r.opportunities + e.occurrences,
        cold := if e.band = .cold then min 255 (half r.cold + e.occurrences) else half r.cold,
        warm := if e.band = .warm then min 255 (half r.warm + e.occurrences) else half r.warm,
        hot := if e.band = .hot then min 255 (half r.hot + e.occurrences) else half r.hot,
        score := score, lastStamp := e.stamp, lastCount := c, latch := r.latch || decide (2048 ≤ score) }] ++ after ∧
      (∀ k : Fin 8, e.snapshot = some k → d'.engine.pool[k] = .free) ∧
      (r.latch = false → 2048 ≤ score → occurred d.causes d'.causes 8) ∧
      (r.latch = true ∨ score < 2048 → d'.causes = d.causes) ∧ d'.job = d.job) ∧
    (c ≤ 2 → (∀ r ∈ d.engine.table, r.locus ≠ e.locus) → e.occurrences ≤ 255 →
      (d.engine.table.length < 48 → d'.engine.table = d.engine.table ++ [fresh] ∧
        d'.engine.nextSerial = d.engine.nextSerial + 1 ∧ d'.engine.evictions = d.engine.evictions ∧
        d'.causes = d.causes ∧
        ∀ (k : Fin 8) (x : Conditions), e.snapshot = some k → d.engine.pool[k] = .linked x →
          d'.engine.pool[k] = .attached x) ∧
      (48 ≤ d.engine.table.length → ∀ (before after : List SuspectRecord) (v : SuspectRecord),
        d.engine.table = before ++ [v] ++ after → mayGo v →
        (∀ r ∈ d.engine.table, mayGo r → v.score < r.score ∨ (v.score = r.score ∧ v.serial ≤ r.serial)) →
        d'.engine.table = before ++ after ++ [fresh] ∧ d'.engine.nextSerial = d.engine.nextSerial + 1 ∧
          d'.engine.evictions = d.engine.evictions + 1 ∧ d'.causes = d.causes ∧
          ∀ k : Fin 8, v.snapshot = some k → e.snapshot ≠ some k → d'.engine.pool[k] = .free) ∧
      (48 ≤ d.engine.table.length → (∀ r ∈ d.engine.table, ¬mayGo r) →
        d'.engine.table = d.engine.table ∧ d'.engine.overflows = d.engine.overflows + 1 ∧
          d'.engine.nextSerial = d.engine.nextSerial ∧ occurred d.causes d'.causes 6 ∧
          ∀ k : Fin 8, e.snapshot = some k → d'.engine.pool[k] = .free))

/-- A CYCLE taken in RUNNING, or in PAUSED with the finish-due mark clear, is counted: the count rises by 1, every score
loses its sixty-fourth, and the staged set is emptied into force. At a nonzero target the job then enters CLOSING for
TARGET, or stays PAUSED with the finish-due mark set, with a finish request; at a multiple of the period in force it
enters CYCLING awaiting OFF with a hold request and a power-off request, taken in the state the sequencer is in; or
else it stays. A CYCLE taken in any other state changes nothing. What was set off is then taken in order: a finish makes a
PLAYING lane FINISHING and is a HELD lane's state to return to, a hold holds the going lanes, power leaving ON stops
them and a stop the held ones too, with the closing test where a lane so ends; a power-off request and a report act as
theirs. That the sequencer takes the power-off request at
once, before the lanes take theirs, and that at a start it waits until all the lanes are started, is the model's choice
(log entry 6). -/
def Obligations.CycleIsCountedWhereItMay : Prop :=
  ∀ (giving : Bool) (d : Device),
    let counts : Prop := d.job.state = .running ∨ (d.job.state = .paused ∧ d.job.finishDue = false)
    let d' : Device := (jobCycle giving d).1
    let later : List Deferred := (jobCycle giving d).2
    let met : Prop := ∃ t ∈ d.job.target, t ≠ 0 ∧ d.job.cycles + 1 = t
    let period : Nat := d.job.staged.period.getD d.job.period
    let due : Prop := period ≠ 0 ∧ (d.job.cycles + 1) % period = 0
    let requests : List Deferred :=
      if d.power.state = .on then [.request .hold, .request .powerLeft] else [.request .hold]
    (counts →
      d'.job.cycles = d.job.cycles + 1 ∧ tookSettings d.job.staged d d' ∧
      d'.engine = { d.engine with
        table := d.engine.table.map fun r => { r with score := r.score - r.score / 64 } } ∧
      (met → d.job.state = .running → d'.job.state = .closing ∧ d'.job.closing = some .target ∧
        later = [.request .finish] ∧ d'.power.state = d.power.state) ∧
      (met → d.job.state = .paused → d'.job.state = .paused ∧ d'.job.finishDue = true ∧
        later = [.request .finish] ∧ d'.power.state = d.power.state) ∧
      (¬met → due → d'.job.state = .cycling ∧ d'.job.finishDue = false ∧
        (giving = true → later = .powerOff :: requests ∧ d'.job.phase = some .awaitingOff ∧
          d'.power.state = d.power.state ∧ d'.power.switchClosed = d.power.switchClosed) ∧
        (giving = false → later = requests ∧ d'.power.state = offAsked d.power.state ∧
          (d.power.state = .on ∨ d.power.state = .rising → d'.power.switchClosed = false ∧ d'.power.fallCount = 0) ∧
          (d.power.state = .falling → d'.power.pendingRequest = false) ∧
          (d.power.state = .asking ∨ d.power.state = .tripped → d'.job.phase = some .dwelling ∧
            d'.job.dwell = some d'.job.offDwell) ∧
          (d.power.state ≠ .asking ∧ d.power.state ≠ .tripped → d'.job.phase = some .awaitingOff))) ∧
      (¬met → ¬due → d'.job.state = d.job.state ∧ d'.job.finishDue = d.job.finishDue ∧ later = [] ∧
        d'.power.state = d.power.state) ∧
      d'.lanes = d.lanes ∧ d'.captures = d.captures ∧ d'.pattern = d.pattern ∧ d'.view = d.view ∧
      d'.bench = d.bench) ∧
    (counts → ∃ e : Device, settingsInForce d.job.staged { d with
        job := { d.job with cycles := d.job.cycles + 1 },
        engine := { d.engine with
          table := d.engine.table.map fun r => { r with score := r.score - r.score / 64 } } } e ∧
      (met → d.job.state = .running → d' = { e with job := { e.job with
        state := .closing, closing := some .target, finishDue := false, phase := none, dwell := none } }) ∧
      (met → d.job.state = .paused → d' = { e with job := { e.job with finishDue := true } }) ∧
      (¬met → due → giving = true → d' = { e with job := { e.job with
        state := .cycling, phase := some .awaitingOff, finishDue := false } }) ∧
      (¬met → ¬due → d' = e)) ∧
    (¬counts → jobCycle giving d = (d, [])) ∧
    deliver [] d = d ∧
    (∀ (first : Deferred) (rest : List Deferred), deliver (first :: rest) d = deliver rest (deliver [first] d)) ∧
    (∀ r : LaneRequest,
      let e : Device := lanesAsked r d
      let ends : Prop := ∃ i : LaneId, (lane d i).state.ended = false ∧ (lane e i).state.ended = true
      (ends → deliver [.request r] d = closingTest e) ∧ (¬ends → deliver [.request r] d = e)) ∧
    deliver [.report] d = closingTest d ∧
    (let fell : Power := { d.power with
        state := .falling, switchClosed := false, riseEnd := none, fallCount := 0, currentRun := 0,
        rails := Vector.ofFn fun r => { d.power.rails[r] with run := 0, first := none } }
     let off : Device := { d with power := { d.power with state := .off } }
     let awaitsOff : Prop := d.job.state = .cycling ∧ d.job.phase = some .awaitingOff
     (d.power.state = .on ∨ d.power.state = .rising → deliver [.powerOff] d = { d with power := fell }) ∧
     (d.power.state = .falling →
       deliver [.powerOff] d = { d with power := { d.power with pendingRequest := false } }) ∧
     (d.power.state = .off → deliver [.powerOff] d = d) ∧
     (d.power.state = .asking ∨ d.power.state = .tripped →
       (awaitsOff → deliver [.powerOff] d = { off with
         job := { d.job with phase := some .dwelling, dwell := some d.job.offDwell } }) ∧
       (¬awaitsOff → deliver [.powerOff] d = closingTest off)))

/-- The closing test, which in any state but CLOSING changes nothing, and nothing either while an enabled lane has not
ended. With every enabled lane ended and power not OFF it gives a power-off request: RISING and ON become FALLING, and
power leaving ON stops the lanes that go; FALLING loses a pending request; ASKING and TRIPPED become OFF at once, and
the job may leave in the same test. With power OFF too, a queue that holds an entry keeps the job in CLOSING; with an
empty one the job leaves it with the verdict of the first row of R174 that holds, and raises JOB-ENDED. -/
def Obligations.ClosingTestSetsVerdict : Prop :=
  ∀ d : Device,
    let d' : Device := closingTest d
    let ended : Prop := ∀ i : LaneId, enabled d i = true → (lane d i).state.ended = true
    (d.job.state ≠ .closing ∨ ¬ended → d' = d) ∧
    (d.job.state = .closing → ended →
      (d.power.state = .off → d.engine.queue ≠ [] → d' = d) ∧
      (d.power.state = .off → d.engine.queue = [] →
        d'.job = { d.job with
          state := if d.job.closing = some .target then .concluded else .aborted, closing := none,
          verdict := if ∃ r ∈ d.engine.table, r.latch = true then .fail
            else if d.job.closing = some .exhausted then .fail
            else if d.job.rackEvents > d.job.rackLimit then .inconclusive
            else if ∃ r ∈ d.engine.table, 256 ≤ r.score then .marginal
            else if d.job.closing = some .aborted then .incomplete else .pass } ∧
        occurred d.causes d'.causes 14 ∧ d' = { d with
          job := d'.job, causes := d'.causes, link := { d.link with notices := d'.link.notices } }) ∧
      (d.power.state = .asking ∨ d.power.state = .tripped →
        d' = closingTest { d with power := { d.power with state := .off } }) ∧
      (d.power.state = .falling → d' = { d with power := { d.power with pendingRequest := false } }) ∧
      (d.power.state = .rising ∨ d.power.state = .on →
        d' = { d with power := d'.power, lanes := d'.lanes, captures := d'.captures } ∧
        d'.power = { d.power with
          state := .falling, switchClosed := false, riseEnd := none, fallCount := 0, currentRun := 0,
          rails := d'.power.rails } ∧
        (∀ r : RailId, d'.power.rails[r] = { d.power.rails[r] with run := 0, first := none }) ∧
        ∀ i : LaneId,
          if d.power.state = .on ∧ (lane d i).state.going = true then
            lane d' i = { lane d i with state := .stopped, resume := none, holdLeft := 0, timer := .stopped } ∧
            capture d' i = { capture d i with window := none }
          else lane d' i = lane d i ∧ capture d' i = capture d i))

/-- An occurrence of a cause: a clear flag is set with a count of 1 and a clear notified mark, and its notice is
queued where the notice test passes and the mode is not LISTEN-ONLY; a set flag only has its count raised, to 255 at
most. A count stays 0 exactly where its flag is clear, and at most 255. Nothing else of the block changes. -/
def Obligations.OccurrenceSetsOrCounts : Prop :=
  ∀ (cause : Cause) (d : Device),
    let i := cause.index
    let d' := raiseCause cause d
    d' = { d with causes := d'.causes, link := { d.link with notices := d'.link.notices } } ∧
      occurred d.causes d'.causes i ∧ (CauseInv d.causes → CauseInv d'.causes) ∧
      (d.causes.records[i].flag = true → d'.link.notices = d.link.notices) ∧
      (∀ j : Fin 15, j ≠ i → d'.link.notices.getLsbD (j.val + 1) = d.link.notices.getLsbD (j.val + 1)) ∧
      (d.causes.records[i].flag = false → d'.link.notices.getLsbD (i.val + 1) =
        (d.link.notices.getLsbD (i.val + 1) ||
          decide (d.link.mode ≠ .listenOnly ∧ 1 ≤ d.causes.records[i].level ∧
            d.causes.floor ≤ d.causes.records[i].level)))

/-! ## Invariants that every step keeps -/

/-- Pattern memory stays in the model's canonical form: nonzero words at rising addresses below 32,768. The form is
the model's choice (log entry 16); the words and addresses are those of R66. -/
def Obligations.StepKeepsPatternCanonical : Prop :=
  ∀ s t : State, patternWf s.pattern = true → step s = .next t → patternWf t.pattern = true

/-- The bay switch stays closed exactly while the state is RISING or ON, and hot_at at least warm_at + 8. -/
def Obligations.StepKeepsSwitchAndThresholds : Prop :=
  ∀ s t : State, PowerInv s.power → step s = .next t → PowerInv t.power

/-- For every record, each band count ≤ hits ≤ opportunities ≤ 65,535 and score ≤ 65,535, with repeat counts from 1 to
255 in the settling queue. -/
def Obligations.StepKeepsRecordCounters : Prop :=
  ∀ s t : State, CountersInv s.engine → step s = .next t → CountersInv t.engine

/-- The settling queue and the suspect table keep their sizes, their distinct loci and their rising serials, every
snapshot stays free, linked to one entry or attached to one record, and at most 8 records stay pinned. The queue stays
in stamp order, with no entry stamped earlier than two frames before the current one, from every state in which a rail
run under way is no older than R54 says it can be; that the sender delivers samples in time for this is trusted (log
entry 2). -/
def Obligations.StepKeepsTableAndPool : Prop :=
  (∀ s t : State, TableInv s.engine → PoolInv s.engine → PinInv s.engine → step s = .next t →
    TableInv t.engine ∧ PoolInv t.engine ∧ PinInv t.engine) ∧
  ∀ s t : State, QueueInv s.toDevice → runsAreShort s.toDevice → step s = .next t → QueueInv t.toDevice

/-- A cause's count stays 0 exactly while its flag is clear, and never exceeds 255; the notice floor and every cause
level, in force and staged, stay from 0 to 7. -/
def Obligations.StepKeepsCauseCounts : Prop :=
  (∀ s t : State, CauseInv s.causes → step s = .next t → CauseInv t.causes) ∧
  ∀ s t : State, LevelInv s.toDevice → step s = .next t → LevelInv t.toDevice

/-- The lanes keep the ranges of R84, loop stacks of at most two entries, timers that agree with their states, and
windows open only while the stimulus lane is PLAYING, FINISHING or HELD. -/
def Obligations.StepKeepsLanesInRange : Prop :=
  ∀ s t : State, LanesInv s.toDevice → step s = .next t → LanesInv t.toDevice

/-- The effective budget stays from 1 to the strap budget, the roster within four entries of different bays, the ring
at five frames, and the peer records in range; and but for a cold start the effective budget does not rise. -/
def Obligations.StepKeepsPeerView : Prop :=
  ∀ s t : State, ViewInv s.toDevice → step s = .next t → ViewInv t.toDevice ∧
    ((∀ (bay : BitVec 4) (budget : BitVec 2), s.pending.head? ≠ some (.coldStart bay budget)) →
      t.view.budget ≤ s.view.budget)

/-- While the state is RISING, the roster keeps a granted entry for the bay itself that ends at the rise end frame, 1
to 64 frames ahead. -/
def Obligations.StepKeepsRiseOnRoster : Prop :=
  ∀ s t : State, WindowInv s.toDevice → RiseInv s.toDevice → step s = .next t →
    WindowInv t.toDevice ∧ RiseInv t.toDevice

/-- The reply queue keeps at most 8 replies, none longer than 64 bytes, under a limit from 8 to 64. -/
def Obligations.StepKeepsReplyQueue : Prop :=
  ∀ s t : State, BenchInv s.bench → step s = .next t → BenchInv t.bench

/-- With a nonzero cycle target, the cycle count never exceeds it, and stands below it in a run that has not met
it. -/
def Obligations.StepKeepsCyclesWithinTarget : Prop :=
  ∀ s t : State, TargetInv s.job → step s = .next t → TargetInv t.job

/-- The machine after reset meets every one of these invariants. -/
def Obligations.ResetMeetsInvariants : Prop :=
  patternWf State.reset.pattern = true ∧ PowerInv State.reset.power ∧ CountersInv State.reset.engine ∧
    TableInv State.reset.engine ∧ PoolInv State.reset.engine ∧ PinInv State.reset.engine ∧
    QueueInv State.reset.toDevice ∧ CauseInv State.reset.causes ∧ LevelInv State.reset.toDevice ∧
    LanesInv State.reset.toDevice ∧ ViewInv State.reset.toDevice ∧
    WindowInv State.reset.toDevice ∧ RiseInv State.reset.toDevice ∧ BenchInv State.reset.bench ∧
    TargetInv State.reset.job
end

