-- ==== Sys2Proof/Laws/Flags.lean ====
section
/-! SUPPORT. What the operations on causes, notices, errors and DISTURB requests leave alone, and what they do. -/

namespace Sys2Proof.Machine

variable (d : Device)

/-! `offer` leaves every block but the link -/

@[simp] theorem offer_view (m : CauseSet) : (offer m d).view = d.view := by
  unfold offer; split_ifs <;> rfl
@[simp] theorem offer_power (m : CauseSet) : (offer m d).power = d.power := by
  unfold offer; split_ifs <;> rfl
@[simp] theorem offer_pattern (m : CauseSet) : (offer m d).pattern = d.pattern := by
  unfold offer; split_ifs <;> rfl
@[simp] theorem offer_lanes (m : CauseSet) : (offer m d).lanes = d.lanes := by
  unfold offer; split_ifs <;> rfl
@[simp] theorem offer_captures (m : CauseSet) : (offer m d).captures = d.captures := by
  unfold offer; split_ifs <;> rfl
@[simp] theorem offer_pins (m : CauseSet) : (offer m d).pins = d.pins := by
  unfold offer; split_ifs <;> rfl
@[simp] theorem offer_engine (m : CauseSet) : (offer m d).engine = d.engine := by
  unfold offer; split_ifs <;> rfl
@[simp] theorem offer_causes (m : CauseSet) : (offer m d).causes = d.causes := by
  unfold offer; split_ifs <;> rfl
@[simp] theorem offer_job (m : CauseSet) : (offer m d).job = d.job := by
  unfold offer; split_ifs <;> rfl
@[simp] theorem offer_bench (m : CauseSet) : (offer m d).bench = d.bench := by
  unfold offer; split_ifs <;> rfl
@[simp] theorem offer_now (m : CauseSet) : (offer m d).now = d.now := by
  unfold offer; split_ifs <;> rfl

/-- An offer adds its causes to the notice queue, but in LISTEN-ONLY (R24, R147). -/
theorem offer_link (m : CauseSet) : (offer m d).link =
    { d.link with notices := if d.link.mode = .listenOnly then d.link.notices else d.link.notices ||| m } := by
  unfold offer; split_ifs <;> rfl

@[simp] theorem offerAll_eq : offerAll d = offer (passing d.causes) d := rfl

/-! `raiseCause` leaves every block but the link and the causes -/

@[simp] theorem raiseCause_view (c : Cause) : (raiseCause c d).view = d.view := by
  unfold raiseCause; dsimp only; split_ifs <;> simp
@[simp] theorem raiseCause_power (c : Cause) : (raiseCause c d).power = d.power := by
  unfold raiseCause; dsimp only; split_ifs <;> simp
@[simp] theorem raiseCause_pattern (c : Cause) : (raiseCause c d).pattern = d.pattern := by
  unfold raiseCause; dsimp only; split_ifs <;> simp
@[simp] theorem raiseCause_lanes (c : Cause) : (raiseCause c d).lanes = d.lanes := by
  unfold raiseCause; dsimp only; split_ifs <;> simp
@[simp] theorem raiseCause_captures (c : Cause) : (raiseCause c d).captures = d.captures := by
  unfold raiseCause; dsimp only; split_ifs <;> simp
@[simp] theorem raiseCause_pins (c : Cause) : (raiseCause c d).pins = d.pins := by
  unfold raiseCause; dsimp only; split_ifs <;> simp
@[simp] theorem raiseCause_engine (c : Cause) : (raiseCause c d).engine = d.engine := by
  unfold raiseCause; dsimp only; split_ifs <;> simp
@[simp] theorem raiseCause_job (c : Cause) : (raiseCause c d).job = d.job := by
  unfold raiseCause; dsimp only; split_ifs <;> simp
@[simp] theorem raiseCause_bench (c : Cause) : (raiseCause c d).bench = d.bench := by
  unfold raiseCause; dsimp only; split_ifs <;> simp
@[simp] theorem raiseCause_now (c : Cause) : (raiseCause c d).now = d.now := by
  unfold raiseCause; dsimp only; split_ifs <;> simp

/-- An occurrence changes the record of its own cause alone (R146). -/
theorem raiseCause_causes (c : Cause) : (raiseCause c d).causes =
    { d.causes with records := d.causes.records.set c.index (occur d.causes.records[c.index]) } := by
  unfold raiseCause; dsimp only; split_ifs <;> simp

/-- An occurrence changes nothing of the link controller but its notice queue (R146, R147). -/
theorem raiseCause_link (c : Cause) :
    (raiseCause c d).link = { d.link with notices := (raiseCause c d).link.notices } := by
  unfold raiseCause offer; dsimp only; split_ifs <;> rfl

@[simp] theorem raiseCause_link_mode (c : Cause) : (raiseCause c d).link.mode = d.link.mode := by
  rw [raiseCause_link]

@[simp] theorem raiseCause_link_frame (c : Cause) : (raiseCause c d).link.frame = d.link.frame := by
  rw [raiseCause_link]

@[simp] theorem raiseCause_link_bay (c : Cause) : (raiseCause c d).link.bay = d.link.bay := by
  rw [raiseCause_link]

@[simp] theorem raiseCause_link_disturbs (c : Cause) : (raiseCause c d).link.disturbs = d.link.disturbs := by
  rw [raiseCause_link]

@[simp] theorem lane_raiseCause (c : Cause) (i : LaneId) : lane (raiseCause c d) i = lane d i := by simp [lane]

@[simp] theorem capture_raiseCause (c : Cause) (i : LaneId) : capture (raiseCause c d) i = capture d i := by
  simp [capture]

/-- The flag of a cause is set after its occurrence (R146). -/
theorem raiseCause_flag (c : Cause) : (raiseCause c d).causes.records[c.index].flag = true := by
  rw [raiseCause_causes]
  simp only [Fin.getElem_fin, Vector.getElem_set_self, occur]
  split_ifs with h
  · exact h
  · rfl

/-! `requestDisturb` leaves every block but the link -/

@[simp] theorem requestDisturb_view (f : Frame) (src : Source) : (requestDisturb f src d).view = d.view := by
  unfold requestDisturb; split_ifs <;> rfl
@[simp] theorem requestDisturb_power (f : Frame) (src : Source) : (requestDisturb f src d).power = d.power := by
  unfold requestDisturb; split_ifs <;> rfl
@[simp] theorem requestDisturb_pattern (f : Frame) (src : Source) : (requestDisturb f src d).pattern = d.pattern := by
  unfold requestDisturb; split_ifs <;> rfl
@[simp] theorem requestDisturb_lanes (f : Frame) (src : Source) : (requestDisturb f src d).lanes = d.lanes := by
  unfold requestDisturb; split_ifs <;> rfl
@[simp] theorem requestDisturb_captures (f : Frame) (src : Source) : (requestDisturb f src d).captures = d.captures := by
  unfold requestDisturb; split_ifs <;> rfl
@[simp] theorem requestDisturb_pins (f : Frame) (src : Source) : (requestDisturb f src d).pins = d.pins := by
  unfold requestDisturb; split_ifs <;> rfl
@[simp] theorem requestDisturb_engine (f : Frame) (src : Source) : (requestDisturb f src d).engine = d.engine := by
  unfold requestDisturb; split_ifs <;> rfl
@[simp] theorem requestDisturb_causes (f : Frame) (src : Source) : (requestDisturb f src d).causes = d.causes := by
  unfold requestDisturb; split_ifs <;> rfl
@[simp] theorem requestDisturb_job (f : Frame) (src : Source) : (requestDisturb f src d).job = d.job := by
  unfold requestDisturb; split_ifs <;> rfl
@[simp] theorem requestDisturb_bench (f : Frame) (src : Source) : (requestDisturb f src d).bench = d.bench := by
  unfold requestDisturb; split_ifs <;> rfl
@[simp] theorem requestDisturb_now (f : Frame) (src : Source) : (requestDisturb f src d).now = d.now := by
  unfold requestDisturb; split_ifs <;> rfl

/-- A request changes the DISTURB queue alone, and not in LISTEN-ONLY (R23, R24). -/
theorem requestDisturb_link (f : Frame) (src : Source) : (requestDisturb f src d).link =
    { d.link with disturbs := if d.link.mode = .listenOnly then d.link.disturbs
                              else disturbRequest d.link.frame f src d.link.disturbs } := by
  unfold requestDisturb; split_ifs <;> rfl

@[simp] theorem requestDisturb_link_mode (f : Frame) (src : Source) :
    (requestDisturb f src d).link.mode = d.link.mode := by rw [requestDisturb_link]

@[simp] theorem requestDisturb_link_frame (f : Frame) (src : Source) :
    (requestDisturb f src d).link.frame = d.link.frame := by rw [requestDisturb_link]

@[simp] theorem requestDisturb_link_notices (f : Frame) (src : Source) :
    (requestDisturb f src d).link.notices = d.link.notices := by rw [requestDisturb_link]

@[simp] theorem lane_requestDisturb (f : Frame) (src : Source) (i : LaneId) :
    lane (requestDisturb f src d) i = lane d i := by simp [lane]

@[simp] theorem capture_requestDisturb (f : Frame) (src : Source) (i : LaneId) :
    capture (requestDisturb f src d) i = capture d i := by simp [capture]

end Sys2Proof.Machine
end

