-- ==== Sys2Proof/Laws/State.lean ====
section
/-! SUPPORT. What each field of the block is after each named update, so that no proof unfolds a record update. -/

namespace Sys2Proof.Machine

variable (d : Device)


/-! `setLink` -/

@[simp] theorem setLink_link (l : Link) : (setLink l d).link = l := rfl
@[simp] theorem setLink_view (l : Link) : (setLink l d).view = d.view := rfl
@[simp] theorem setLink_power (l : Link) : (setLink l d).power = d.power := rfl
@[simp] theorem setLink_pattern (l : Link) : (setLink l d).pattern = d.pattern := rfl
@[simp] theorem setLink_lanes (l : Link) : (setLink l d).lanes = d.lanes := rfl
@[simp] theorem setLink_captures (l : Link) : (setLink l d).captures = d.captures := rfl
@[simp] theorem setLink_pins (l : Link) : (setLink l d).pins = d.pins := rfl
@[simp] theorem setLink_engine (l : Link) : (setLink l d).engine = d.engine := rfl
@[simp] theorem setLink_causes (l : Link) : (setLink l d).causes = d.causes := rfl
@[simp] theorem setLink_job (l : Link) : (setLink l d).job = d.job := rfl
@[simp] theorem setLink_bench (l : Link) : (setLink l d).bench = d.bench := rfl
@[simp] theorem setLink_now (l : Link) : (setLink l d).now = d.now := rfl

/-! `setView` -/

@[simp] theorem setView_link (v : PeerView) : (setView v d).link = d.link := rfl
@[simp] theorem setView_view (v : PeerView) : (setView v d).view = v := rfl
@[simp] theorem setView_power (v : PeerView) : (setView v d).power = d.power := rfl
@[simp] theorem setView_pattern (v : PeerView) : (setView v d).pattern = d.pattern := rfl
@[simp] theorem setView_lanes (v : PeerView) : (setView v d).lanes = d.lanes := rfl
@[simp] theorem setView_captures (v : PeerView) : (setView v d).captures = d.captures := rfl
@[simp] theorem setView_pins (v : PeerView) : (setView v d).pins = d.pins := rfl
@[simp] theorem setView_engine (v : PeerView) : (setView v d).engine = d.engine := rfl
@[simp] theorem setView_causes (v : PeerView) : (setView v d).causes = d.causes := rfl
@[simp] theorem setView_job (v : PeerView) : (setView v d).job = d.job := rfl
@[simp] theorem setView_bench (v : PeerView) : (setView v d).bench = d.bench := rfl
@[simp] theorem setView_now (v : PeerView) : (setView v d).now = d.now := rfl

/-! `setPower` -/

@[simp] theorem setPower_link (p : Power) : (setPower p d).link = d.link := rfl
@[simp] theorem setPower_view (p : Power) : (setPower p d).view = d.view := rfl
@[simp] theorem setPower_power (p : Power) : (setPower p d).power = p := rfl
@[simp] theorem setPower_pattern (p : Power) : (setPower p d).pattern = d.pattern := rfl
@[simp] theorem setPower_lanes (p : Power) : (setPower p d).lanes = d.lanes := rfl
@[simp] theorem setPower_captures (p : Power) : (setPower p d).captures = d.captures := rfl
@[simp] theorem setPower_pins (p : Power) : (setPower p d).pins = d.pins := rfl
@[simp] theorem setPower_engine (p : Power) : (setPower p d).engine = d.engine := rfl
@[simp] theorem setPower_causes (p : Power) : (setPower p d).causes = d.causes := rfl
@[simp] theorem setPower_job (p : Power) : (setPower p d).job = d.job := rfl
@[simp] theorem setPower_bench (p : Power) : (setPower p d).bench = d.bench := rfl
@[simp] theorem setPower_now (p : Power) : (setPower p d).now = d.now := rfl

/-! `setJob` -/

@[simp] theorem setJob_link (jb : Job) : (setJob jb d).link = d.link := rfl
@[simp] theorem setJob_view (jb : Job) : (setJob jb d).view = d.view := rfl
@[simp] theorem setJob_power (jb : Job) : (setJob jb d).power = d.power := rfl
@[simp] theorem setJob_pattern (jb : Job) : (setJob jb d).pattern = d.pattern := rfl
@[simp] theorem setJob_lanes (jb : Job) : (setJob jb d).lanes = d.lanes := rfl
@[simp] theorem setJob_captures (jb : Job) : (setJob jb d).captures = d.captures := rfl
@[simp] theorem setJob_pins (jb : Job) : (setJob jb d).pins = d.pins := rfl
@[simp] theorem setJob_engine (jb : Job) : (setJob jb d).engine = d.engine := rfl
@[simp] theorem setJob_causes (jb : Job) : (setJob jb d).causes = d.causes := rfl
@[simp] theorem setJob_job (jb : Job) : (setJob jb d).job = jb := rfl
@[simp] theorem setJob_bench (jb : Job) : (setJob jb d).bench = d.bench := rfl
@[simp] theorem setJob_now (jb : Job) : (setJob jb d).now = d.now := rfl

/-! `setEngine` -/

@[simp] theorem setEngine_link (g : Engine) : (setEngine g d).link = d.link := rfl
@[simp] theorem setEngine_view (g : Engine) : (setEngine g d).view = d.view := rfl
@[simp] theorem setEngine_power (g : Engine) : (setEngine g d).power = d.power := rfl
@[simp] theorem setEngine_pattern (g : Engine) : (setEngine g d).pattern = d.pattern := rfl
@[simp] theorem setEngine_lanes (g : Engine) : (setEngine g d).lanes = d.lanes := rfl
@[simp] theorem setEngine_captures (g : Engine) : (setEngine g d).captures = d.captures := rfl
@[simp] theorem setEngine_pins (g : Engine) : (setEngine g d).pins = d.pins := rfl
@[simp] theorem setEngine_engine (g : Engine) : (setEngine g d).engine = g := rfl
@[simp] theorem setEngine_causes (g : Engine) : (setEngine g d).causes = d.causes := rfl
@[simp] theorem setEngine_job (g : Engine) : (setEngine g d).job = d.job := rfl
@[simp] theorem setEngine_bench (g : Engine) : (setEngine g d).bench = d.bench := rfl
@[simp] theorem setEngine_now (g : Engine) : (setEngine g d).now = d.now := rfl

/-! `setLane` -/

@[simp] theorem setLane_link (i : LaneId) (l : Lane) : (setLane i l d).link = d.link := rfl
@[simp] theorem setLane_view (i : LaneId) (l : Lane) : (setLane i l d).view = d.view := rfl
@[simp] theorem setLane_power (i : LaneId) (l : Lane) : (setLane i l d).power = d.power := rfl
@[simp] theorem setLane_pattern (i : LaneId) (l : Lane) : (setLane i l d).pattern = d.pattern := rfl
@[simp] theorem setLane_lanes (i : LaneId) (l : Lane) : (setLane i l d).lanes = d.lanes.set i l := rfl
@[simp] theorem setLane_captures (i : LaneId) (l : Lane) : (setLane i l d).captures = d.captures := rfl
@[simp] theorem setLane_pins (i : LaneId) (l : Lane) : (setLane i l d).pins = d.pins := rfl
@[simp] theorem setLane_engine (i : LaneId) (l : Lane) : (setLane i l d).engine = d.engine := rfl
@[simp] theorem setLane_causes (i : LaneId) (l : Lane) : (setLane i l d).causes = d.causes := rfl
@[simp] theorem setLane_job (i : LaneId) (l : Lane) : (setLane i l d).job = d.job := rfl
@[simp] theorem setLane_bench (i : LaneId) (l : Lane) : (setLane i l d).bench = d.bench := rfl
@[simp] theorem setLane_now (i : LaneId) (l : Lane) : (setLane i l d).now = d.now := rfl

/-! `setCapture` -/

@[simp] theorem setCapture_link (i : LaneId) (c : Capture) : (setCapture i c d).link = d.link := rfl
@[simp] theorem setCapture_view (i : LaneId) (c : Capture) : (setCapture i c d).view = d.view := rfl
@[simp] theorem setCapture_power (i : LaneId) (c : Capture) : (setCapture i c d).power = d.power := rfl
@[simp] theorem setCapture_pattern (i : LaneId) (c : Capture) : (setCapture i c d).pattern = d.pattern := rfl
@[simp] theorem setCapture_lanes (i : LaneId) (c : Capture) : (setCapture i c d).lanes = d.lanes := rfl
@[simp] theorem setCapture_captures (i : LaneId) (c : Capture) :
    (setCapture i c d).captures =
      d.captures.set i c := rfl
@[simp] theorem setCapture_pins (i : LaneId) (c : Capture) : (setCapture i c d).pins = d.pins := rfl
@[simp] theorem setCapture_engine (i : LaneId) (c : Capture) : (setCapture i c d).engine = d.engine := rfl
@[simp] theorem setCapture_causes (i : LaneId) (c : Capture) : (setCapture i c d).causes = d.causes := rfl
@[simp] theorem setCapture_job (i : LaneId) (c : Capture) : (setCapture i c d).job = d.job := rfl
@[simp] theorem setCapture_bench (i : LaneId) (c : Capture) : (setCapture i c d).bench = d.bench := rfl
@[simp] theorem setCapture_now (i : LaneId) (c : Capture) : (setCapture i c d).now = d.now := rfl

/-! `setPeer` -/

@[simp] theorem setPeer_link (b : StationId) (p : Peer) : (setPeer b p d).link = d.link := rfl
@[simp] theorem setPeer_view (b : StationId) (p : Peer) :
    (setPeer b p d).view =
      { d.view with peers := d.view.peers.set b p } := rfl
@[simp] theorem setPeer_power (b : StationId) (p : Peer) : (setPeer b p d).power = d.power := rfl
@[simp] theorem setPeer_pattern (b : StationId) (p : Peer) : (setPeer b p d).pattern = d.pattern := rfl
@[simp] theorem setPeer_lanes (b : StationId) (p : Peer) : (setPeer b p d).lanes = d.lanes := rfl
@[simp] theorem setPeer_captures (b : StationId) (p : Peer) : (setPeer b p d).captures = d.captures := rfl
@[simp] theorem setPeer_pins (b : StationId) (p : Peer) : (setPeer b p d).pins = d.pins := rfl
@[simp] theorem setPeer_engine (b : StationId) (p : Peer) : (setPeer b p d).engine = d.engine := rfl
@[simp] theorem setPeer_causes (b : StationId) (p : Peer) : (setPeer b p d).causes = d.causes := rfl
@[simp] theorem setPeer_job (b : StationId) (p : Peer) : (setPeer b p d).job = d.job := rfl
@[simp] theorem setPeer_bench (b : StationId) (p : Peer) : (setPeer b p d).bench = d.bench := rfl
@[simp] theorem setPeer_now (b : StationId) (p : Peer) : (setPeer b p d).now = d.now := rfl

/-! `setNote` -/

@[simp] theorem setNote_link (b : StationId) (n : SlotNote) : (setNote b n d).link = d.link := rfl
@[simp] theorem setNote_view (b : StationId) (n : SlotNote) :
    (setNote b n d).view =
      { d.view with notes := d.view.notes.set b n } := rfl
@[simp] theorem setNote_power (b : StationId) (n : SlotNote) : (setNote b n d).power = d.power := rfl
@[simp] theorem setNote_pattern (b : StationId) (n : SlotNote) : (setNote b n d).pattern = d.pattern := rfl
@[simp] theorem setNote_lanes (b : StationId) (n : SlotNote) : (setNote b n d).lanes = d.lanes := rfl
@[simp] theorem setNote_captures (b : StationId) (n : SlotNote) : (setNote b n d).captures = d.captures := rfl
@[simp] theorem setNote_pins (b : StationId) (n : SlotNote) : (setNote b n d).pins = d.pins := rfl
@[simp] theorem setNote_engine (b : StationId) (n : SlotNote) : (setNote b n d).engine = d.engine := rfl
@[simp] theorem setNote_causes (b : StationId) (n : SlotNote) : (setNote b n d).causes = d.causes := rfl
@[simp] theorem setNote_job (b : StationId) (n : SlotNote) : (setNote b n d).job = d.job := rfl
@[simp] theorem setNote_bench (b : StationId) (n : SlotNote) : (setNote b n d).bench = d.bench := rfl
@[simp] theorem setNote_now (b : StationId) (n : SlotNote) : (setNote b n d).now = d.now := rfl

/-! `atMoment` -/

@[simp] theorem atMoment_link (m : Nat) : (atMoment m d).link = d.link := rfl
@[simp] theorem atMoment_view (m : Nat) : (atMoment m d).view = d.view := rfl
@[simp] theorem atMoment_power (m : Nat) : (atMoment m d).power = d.power := rfl
@[simp] theorem atMoment_pattern (m : Nat) : (atMoment m d).pattern = d.pattern := rfl
@[simp] theorem atMoment_lanes (m : Nat) : (atMoment m d).lanes = d.lanes := rfl
@[simp] theorem atMoment_captures (m : Nat) : (atMoment m d).captures = d.captures := rfl
@[simp] theorem atMoment_pins (m : Nat) : (atMoment m d).pins = d.pins := rfl
@[simp] theorem atMoment_engine (m : Nat) : (atMoment m d).engine = d.engine := rfl
@[simp] theorem atMoment_causes (m : Nat) : (atMoment m d).causes = d.causes := rfl
@[simp] theorem atMoment_job (m : Nat) : (atMoment m d).job = d.job := rfl
@[simp] theorem atMoment_bench (m : Nat) : (atMoment m d).bench = d.bench := rfl
@[simp] theorem atMoment_now (m : Nat) : (atMoment m d).now = max d.now m := rfl

/-! `presentPins` -/

@[simp] theorem presentPins_link (i : LaneId) (b : Byte) : (presentPins i b d).link = d.link := rfl
@[simp] theorem presentPins_view (i : LaneId) (b : Byte) : (presentPins i b d).view = d.view := rfl
@[simp] theorem presentPins_power (i : LaneId) (b : Byte) : (presentPins i b d).power = d.power := rfl
@[simp] theorem presentPins_pattern (i : LaneId) (b : Byte) : (presentPins i b d).pattern = d.pattern := rfl
@[simp] theorem presentPins_lanes (i : LaneId) (b : Byte) : (presentPins i b d).lanes = d.lanes := rfl
@[simp] theorem presentPins_captures (i : LaneId) (b : Byte) : (presentPins i b d).captures = d.captures := rfl
@[simp] theorem presentPins_pins (i : LaneId) (b : Byte) : (presentPins i b d).pins = d.pins.set i b := rfl
@[simp] theorem presentPins_engine (i : LaneId) (b : Byte) : (presentPins i b d).engine = d.engine := rfl
@[simp] theorem presentPins_causes (i : LaneId) (b : Byte) : (presentPins i b d).causes = d.causes := rfl
@[simp] theorem presentPins_job (i : LaneId) (b : Byte) : (presentPins i b d).job = d.job := rfl
@[simp] theorem presentPins_bench (i : LaneId) (b : Byte) : (presentPins i b d).bench = d.bench := rfl
@[simp] theorem presentPins_now (i : LaneId) (b : Byte) : (presentPins i b d).now = d.now := rfl

/-! `presentAllPins` -/

@[simp] theorem presentAllPins_link (ps : CapturePins) : (presentAllPins ps d).link = d.link := rfl
@[simp] theorem presentAllPins_view (ps : CapturePins) : (presentAllPins ps d).view = d.view := rfl
@[simp] theorem presentAllPins_power (ps : CapturePins) : (presentAllPins ps d).power = d.power := rfl
@[simp] theorem presentAllPins_pattern (ps : CapturePins) : (presentAllPins ps d).pattern = d.pattern := rfl
@[simp] theorem presentAllPins_lanes (ps : CapturePins) : (presentAllPins ps d).lanes = d.lanes := rfl
@[simp] theorem presentAllPins_captures (ps : CapturePins) : (presentAllPins ps d).captures = d.captures := rfl
@[simp] theorem presentAllPins_pins (ps : CapturePins) : (presentAllPins ps d).pins = ps := rfl
@[simp] theorem presentAllPins_engine (ps : CapturePins) : (presentAllPins ps d).engine = d.engine := rfl
@[simp] theorem presentAllPins_causes (ps : CapturePins) : (presentAllPins ps d).causes = d.causes := rfl
@[simp] theorem presentAllPins_job (ps : CapturePins) : (presentAllPins ps d).job = d.job := rfl
@[simp] theorem presentAllPins_bench (ps : CapturePins) : (presentAllPins ps d).bench = d.bench := rfl
@[simp] theorem presentAllPins_now (ps : CapturePins) : (presentAllPins ps d).now = d.now := rfl

/-! `setReception` -/

@[simp] theorem setReception_link (r : Reception) : (setReception r d).link = { d.link with reception := r } := rfl
@[simp] theorem setReception_view (r : Reception) : (setReception r d).view = d.view := rfl
@[simp] theorem setReception_power (r : Reception) : (setReception r d).power = d.power := rfl
@[simp] theorem setReception_pattern (r : Reception) : (setReception r d).pattern = d.pattern := rfl
@[simp] theorem setReception_lanes (r : Reception) : (setReception r d).lanes = d.lanes := rfl
@[simp] theorem setReception_captures (r : Reception) : (setReception r d).captures = d.captures := rfl
@[simp] theorem setReception_pins (r : Reception) : (setReception r d).pins = d.pins := rfl
@[simp] theorem setReception_engine (r : Reception) : (setReception r d).engine = d.engine := rfl
@[simp] theorem setReception_causes (r : Reception) : (setReception r d).causes = d.causes := rfl
@[simp] theorem setReception_job (r : Reception) : (setReception r d).job = d.job := rfl
@[simp] theorem setReception_bench (r : Reception) : (setReception r d).bench = d.bench := rfl
@[simp] theorem setReception_now (r : Reception) : (setReception r d).now = d.now := rfl

/-! `addError` -/

@[simp] theorem addError_link (k : ErrorKind) :
    (addError k d).link =
      { d.link with errors := d.link.errors ||| k.single } := rfl
@[simp] theorem addError_view (k : ErrorKind) : (addError k d).view = d.view := rfl
@[simp] theorem addError_power (k : ErrorKind) : (addError k d).power = d.power := rfl
@[simp] theorem addError_pattern (k : ErrorKind) : (addError k d).pattern = d.pattern := rfl
@[simp] theorem addError_lanes (k : ErrorKind) : (addError k d).lanes = d.lanes := rfl
@[simp] theorem addError_captures (k : ErrorKind) : (addError k d).captures = d.captures := rfl
@[simp] theorem addError_pins (k : ErrorKind) : (addError k d).pins = d.pins := rfl
@[simp] theorem addError_engine (k : ErrorKind) : (addError k d).engine = d.engine := rfl
@[simp] theorem addError_causes (k : ErrorKind) : (addError k d).causes = d.causes := rfl
@[simp] theorem addError_job (k : ErrorKind) : (addError k d).job = d.job := rfl
@[simp] theorem addError_bench (k : ErrorKind) : (addError k d).bench = d.bench := rfl
@[simp] theorem addError_now (k : ErrorKind) : (addError k d).now = d.now := rfl

/-! `abandon` -/

@[simp] theorem abandon_link (i : LaneId) : (abandon i d).link = d.link := rfl
@[simp] theorem abandon_view (i : LaneId) : (abandon i d).view = d.view := rfl
@[simp] theorem abandon_power (i : LaneId) : (abandon i d).power = d.power := rfl
@[simp] theorem abandon_pattern (i : LaneId) : (abandon i d).pattern = d.pattern := rfl
@[simp] theorem abandon_lanes (i : LaneId) : (abandon i d).lanes = d.lanes := rfl
@[simp] theorem abandon_captures (i : LaneId) :
    (abandon i d).captures =
      d.captures.set i { capture d i with window := none } := rfl
@[simp] theorem abandon_pins (i : LaneId) : (abandon i d).pins = d.pins := rfl
@[simp] theorem abandon_engine (i : LaneId) : (abandon i d).engine = d.engine := rfl
@[simp] theorem abandon_causes (i : LaneId) : (abandon i d).causes = d.causes := rfl
@[simp] theorem abandon_job (i : LaneId) : (abandon i d).job = d.job := rfl
@[simp] theorem abandon_bench (i : LaneId) : (abandon i d).bench = d.bench := rfl
@[simp] theorem abandon_now (i : LaneId) : (abandon i d).now = d.now := rfl

/-! `clearTable` -/

@[simp] theorem clearTable_link : (clearTable d).link = d.link := rfl
@[simp] theorem clearTable_view : (clearTable d).view = d.view := rfl
@[simp] theorem clearTable_power : (clearTable d).power = d.power := rfl
@[simp] theorem clearTable_pattern : (clearTable d).pattern = d.pattern := rfl
@[simp] theorem clearTable_lanes : (clearTable d).lanes = d.lanes := rfl
@[simp] theorem clearTable_captures : (clearTable d).captures = d.captures := rfl
@[simp] theorem clearTable_pins : (clearTable d).pins = d.pins := rfl
@[simp] theorem clearTable_engine :
    (clearTable d).engine =
      { Engine.cold with tallyNow := d.engine.tallyNow, tallyBefore := d.engine.tallyBefore } := rfl
@[simp] theorem clearTable_causes : (clearTable d).causes = d.causes := rfl
@[simp] theorem clearTable_job : (clearTable d).job = d.job := rfl
@[simp] theorem clearTable_bench : (clearTable d).bench = d.bench := rfl
@[simp] theorem clearTable_now : (clearTable d).now = d.now := rfl

/-! `decayTable` -/

@[simp] theorem decayTable_link : (decayTable d).link = d.link := rfl
@[simp] theorem decayTable_view : (decayTable d).view = d.view := rfl
@[simp] theorem decayTable_power : (decayTable d).power = d.power := rfl
@[simp] theorem decayTable_pattern : (decayTable d).pattern = d.pattern := rfl
@[simp] theorem decayTable_lanes : (decayTable d).lanes = d.lanes := rfl
@[simp] theorem decayTable_captures : (decayTable d).captures = d.captures := rfl
@[simp] theorem decayTable_pins : (decayTable d).pins = d.pins := rfl
@[simp] theorem decayTable_engine :
    (decayTable d).engine =
      { d.engine with table := d.engine.table.map decayRecord } := rfl
@[simp] theorem decayTable_causes : (decayTable d).causes = d.causes := rfl
@[simp] theorem decayTable_job : (decayTable d).job = d.job := rfl
@[simp] theorem decayTable_bench : (decayTable d).bench = d.bench := rfl
@[simp] theorem decayTable_now : (decayTable d).now = d.now := rfl

/-! `tallyShift` -/

@[simp] theorem tallyShift_link : (tallyShift d).link = d.link := rfl
@[simp] theorem tallyShift_view : (tallyShift d).view = d.view := rfl
@[simp] theorem tallyShift_power : (tallyShift d).power = d.power := rfl
@[simp] theorem tallyShift_pattern : (tallyShift d).pattern = d.pattern := rfl
@[simp] theorem tallyShift_lanes : (tallyShift d).lanes = d.lanes := rfl
@[simp] theorem tallyShift_captures : (tallyShift d).captures = d.captures := rfl
@[simp] theorem tallyShift_pins : (tallyShift d).pins = d.pins := rfl
@[simp] theorem tallyShift_engine :
    (tallyShift d).engine =
      { d.engine with tallyBefore := d.engine.tallyNow, tallyNow := Tally.empty } := rfl
@[simp] theorem tallyShift_causes : (tallyShift d).causes = d.causes := rfl
@[simp] theorem tallyShift_job : (tallyShift d).job = d.job := rfl
@[simp] theorem tallyShift_bench : (tallyShift d).bench = d.bench := rfl
@[simp] theorem tallyShift_now : (tallyShift d).now = d.now := rfl

/-! `opportunity` -/

@[simp] theorem opportunity_link (x : Locus) : (opportunity x d).link = d.link := rfl
@[simp] theorem opportunity_view (x : Locus) : (opportunity x d).view = d.view := rfl
@[simp] theorem opportunity_power (x : Locus) : (opportunity x d).power = d.power := rfl
@[simp] theorem opportunity_pattern (x : Locus) : (opportunity x d).pattern = d.pattern := rfl
@[simp] theorem opportunity_lanes (x : Locus) : (opportunity x d).lanes = d.lanes := rfl
@[simp] theorem opportunity_captures (x : Locus) : (opportunity x d).captures = d.captures := rfl
@[simp] theorem opportunity_pins (x : Locus) : (opportunity x d).pins = d.pins := rfl
@[simp] theorem opportunity_engine (x : Locus) :
    (opportunity x d).engine =
      { d.engine with table := mapRecord x creditRecord d.engine.table } := rfl
@[simp] theorem opportunity_causes (x : Locus) : (opportunity x d).causes = d.causes := rfl
@[simp] theorem opportunity_job (x : Locus) : (opportunity x d).job = d.job := rfl
@[simp] theorem opportunity_bench (x : Locus) : (opportunity x d).bench = d.bench := rfl
@[simp] theorem opportunity_now (x : Locus) : (opportunity x d).now = d.now := rfl

/-! `givePower` -/

@[simp] theorem givePower_link : (givePower d).link = d.link := rfl
@[simp] theorem givePower_view : (givePower d).view = d.view := rfl
@[simp] theorem givePower_power : (givePower d).power = powerRequest d.power := rfl
@[simp] theorem givePower_pattern : (givePower d).pattern = d.pattern := rfl
@[simp] theorem givePower_lanes : (givePower d).lanes = d.lanes := rfl
@[simp] theorem givePower_captures : (givePower d).captures = d.captures := rfl
@[simp] theorem givePower_pins : (givePower d).pins = d.pins := rfl
@[simp] theorem givePower_engine : (givePower d).engine = d.engine := rfl
@[simp] theorem givePower_causes : (givePower d).causes = d.causes := rfl
@[simp] theorem givePower_job : (givePower d).job = d.job := rfl
@[simp] theorem givePower_bench : (givePower d).bench = d.bench := rfl
@[simp] theorem givePower_now : (givePower d).now = d.now := rfl

/-! Reading lanes, capture lanes and peers back -/

@[simp] theorem lane_setLane_self (i : LaneId) (l : Lane) : lane (setLane i l d) i = l := by
  simp [lane, setLane]

@[simp] theorem lane_setLane_ne {i j : LaneId} (h : j ≠ i) (l : Lane) : lane (setLane i l d) j = lane d j := by
  simp [lane, setLane, Fin.val_inj, h.symm]

@[simp] theorem capture_setCapture_self (i : LaneId) (c : Capture) : capture (setCapture i c d) i = c := by
  simp [capture, setCapture]

@[simp] theorem capture_setCapture_ne {i j : LaneId} (h : j ≠ i) (c : Capture) :
    capture (setCapture i c d) j = capture d j := by
  simp [capture, setCapture, Fin.val_inj, h.symm]

@[simp] theorem peer_setPeer_self (b : StationId) (p : Peer) : peer (setPeer b p d) b = p := by
  simp [peer, setPeer, setView]

@[simp] theorem peer_setPeer_ne {a b : StationId} (h : a ≠ b) (p : Peer) :
    peer (setPeer b p d) a = peer d a := by
  simp [peer, setPeer, setView, Fin.val_inj, h.symm]

@[simp] theorem lane_setLink (l : Link) (j : LaneId) : lane (setLink l d) j = lane d j := rfl
@[simp] theorem lane_setView (v : PeerView) (j : LaneId) : lane (setView v d) j = lane d j := rfl
@[simp] theorem lane_setPower (p : Power) (j : LaneId) : lane (setPower p d) j = lane d j := rfl
@[simp] theorem lane_setJob (jb : Job) (j : LaneId) : lane (setJob jb d) j = lane d j := rfl
@[simp] theorem lane_setEngine (g : Engine) (j : LaneId) : lane (setEngine g d) j = lane d j := rfl
@[simp] theorem lane_setCapture (i : LaneId) (c : Capture) (j : LaneId) : lane (setCapture i c d) j = lane d j := rfl
@[simp] theorem lane_setPeer (b : StationId) (p : Peer) (j : LaneId) : lane (setPeer b p d) j = lane d j := rfl
@[simp] theorem lane_setNote (b : StationId) (n : SlotNote) (j : LaneId) : lane (setNote b n d) j = lane d j := rfl
@[simp] theorem lane_atMoment (m : Nat) (j : LaneId) : lane (atMoment m d) j = lane d j := rfl
@[simp] theorem lane_presentPins (i : LaneId) (b : Byte) (j : LaneId) : lane (presentPins i b d) j = lane d j := rfl
@[simp] theorem lane_presentAllPins (ps : CapturePins) (j : LaneId) : lane (presentAllPins ps d) j = lane d j := rfl
@[simp] theorem lane_setReception (r : Reception) (j : LaneId) : lane (setReception r d) j = lane d j := rfl
@[simp] theorem lane_addError (k : ErrorKind) (j : LaneId) : lane (addError k d) j = lane d j := rfl
@[simp] theorem lane_abandon (i : LaneId) (j : LaneId) : lane (abandon i d) j = lane d j := rfl
@[simp] theorem lane_clearTable (j : LaneId) : lane (clearTable d) j = lane d j := rfl
@[simp] theorem lane_decayTable (j : LaneId) : lane (decayTable d) j = lane d j := rfl
@[simp] theorem lane_tallyShift (j : LaneId) : lane (tallyShift d) j = lane d j := rfl
@[simp] theorem lane_opportunity (x : Locus) (j : LaneId) : lane (opportunity x d) j = lane d j := rfl
@[simp] theorem lane_givePower (j : LaneId) : lane (givePower d) j = lane d j := rfl
@[simp] theorem capture_setLink (l : Link) (j : LaneId) : capture (setLink l d) j = capture d j := rfl
@[simp] theorem capture_setView (v : PeerView) (j : LaneId) : capture (setView v d) j = capture d j := rfl
@[simp] theorem capture_setPower (p : Power) (j : LaneId) : capture (setPower p d) j = capture d j := rfl
@[simp] theorem capture_setJob (jb : Job) (j : LaneId) : capture (setJob jb d) j = capture d j := rfl
@[simp] theorem capture_setEngine (g : Engine) (j : LaneId) : capture (setEngine g d) j = capture d j := rfl
@[simp] theorem capture_setLane (i : LaneId) (l : Lane) (j : LaneId) : capture (setLane i l d) j = capture d j := rfl
@[simp] theorem capture_setPeer (b : StationId) (p : Peer) (j : LaneId) :
    capture (setPeer b p d) j = capture d j := rfl
@[simp] theorem capture_setNote (b : StationId) (n : SlotNote) (j : LaneId) :
    capture (setNote b n d) j = capture d j := rfl
@[simp] theorem capture_atMoment (m : Nat) (j : LaneId) : capture (atMoment m d) j = capture d j := rfl
@[simp] theorem capture_presentPins (i : LaneId) (b : Byte) (j : LaneId) :
    capture (presentPins i b d) j = capture d j := rfl
@[simp] theorem capture_presentAllPins (ps : CapturePins) (j : LaneId) :
    capture (presentAllPins ps d) j = capture d j := rfl
@[simp] theorem capture_setReception (r : Reception) (j : LaneId) : capture (setReception r d) j = capture d j := rfl
@[simp] theorem capture_addError (k : ErrorKind) (j : LaneId) : capture (addError k d) j = capture d j := rfl
@[simp] theorem capture_clearTable (j : LaneId) : capture (clearTable d) j = capture d j := rfl
@[simp] theorem capture_decayTable (j : LaneId) : capture (decayTable d) j = capture d j := rfl
@[simp] theorem capture_tallyShift (j : LaneId) : capture (tallyShift d) j = capture d j := rfl
@[simp] theorem capture_opportunity (x : Locus) (j : LaneId) : capture (opportunity x d) j = capture d j := rfl
@[simp] theorem capture_givePower (j : LaneId) : capture (givePower d) j = capture d j := rfl
@[simp] theorem peer_setLink (l : Link) (a : StationId) : peer (setLink l d) a = peer d a := rfl
@[simp] theorem peer_setPower (p : Power) (a : StationId) : peer (setPower p d) a = peer d a := rfl
@[simp] theorem peer_setJob (jb : Job) (a : StationId) : peer (setJob jb d) a = peer d a := rfl
@[simp] theorem peer_setEngine (g : Engine) (a : StationId) : peer (setEngine g d) a = peer d a := rfl
@[simp] theorem peer_setLane (i : LaneId) (l : Lane) (a : StationId) : peer (setLane i l d) a = peer d a := rfl
@[simp] theorem peer_setCapture (i : LaneId) (c : Capture) (a : StationId) :
    peer (setCapture i c d) a = peer d a := rfl
@[simp] theorem peer_setNote (b : StationId) (n : SlotNote) (a : StationId) : peer (setNote b n d) a = peer d a := rfl
@[simp] theorem peer_atMoment (m : Nat) (a : StationId) : peer (atMoment m d) a = peer d a := rfl
@[simp] theorem peer_presentPins (i : LaneId) (b : Byte) (a : StationId) :
    peer (presentPins i b d) a = peer d a := rfl
@[simp] theorem peer_presentAllPins (ps : CapturePins) (a : StationId) :
    peer (presentAllPins ps d) a = peer d a := rfl
@[simp] theorem peer_setReception (r : Reception) (a : StationId) : peer (setReception r d) a = peer d a := rfl
@[simp] theorem peer_addError (k : ErrorKind) (a : StationId) : peer (addError k d) a = peer d a := rfl
@[simp] theorem peer_abandon (i : LaneId) (a : StationId) : peer (abandon i d) a = peer d a := rfl
@[simp] theorem peer_clearTable (a : StationId) : peer (clearTable d) a = peer d a := rfl
@[simp] theorem peer_decayTable (a : StationId) : peer (decayTable d) a = peer d a := rfl
@[simp] theorem peer_tallyShift (a : StationId) : peer (tallyShift d) a = peer d a := rfl
@[simp] theorem peer_opportunity (x : Locus) (a : StationId) : peer (opportunity x d) a = peer d a := rfl
@[simp] theorem peer_givePower (a : StationId) : peer (givePower d) a = peer d a := rfl

/-! The own slot and the strap budget depend on the straps alone -/

theorem ownSlot_congr {a b : Device} (h : a.link.bay = b.link.bay) : ownSlot a = ownSlot b := by
  simp [ownSlot, h]

theorem strapBudget_congr {a b : Device} (h : a.link.budgetStrap = b.link.budgetStrap) :
    strapBudget a = strapBudget b := by
  simp [strapBudget, h]

theorem enabled_congr {a b : Device} (h : a.job.mask = b.job.mask) : enabled a = enabled b := by
  funext i
  simp [enabled, h]

theorem leadLane_congr {a b : Device} (h : a.job.mask = b.job.mask)
    (he : a.job.state = .empty ↔ b.job.state = .empty) : leadLane a = leadLane b := by
  simp [leadLane, enabled_congr h, he]

end Sys2Proof.Machine
end

