-- ==== Sys2Proof/Laws/Attribution.lean ====
section
/-! SUPPORT. What the attribution engine leaves alone: a settle, an early settle and an event touch the engine, the causes,
the notice and DISTURB queues, and the job's rack events. -/

namespace Sys2Proof.Machine

variable (d : Device)

/-! The ways a settle goes -/

@[simp] theorem rackEvent_view (e : Entry) : (rackEvent e d).view = d.view := by
  unfold rackEvent; dsimp only; split_ifs <;> simp
@[simp] theorem rackEvent_power (e : Entry) : (rackEvent e d).power = d.power := by
  unfold rackEvent; dsimp only; split_ifs <;> simp
@[simp] theorem rackEvent_pattern (e : Entry) : (rackEvent e d).pattern = d.pattern := by
  unfold rackEvent; dsimp only; split_ifs <;> simp
@[simp] theorem rackEvent_lanes (e : Entry) : (rackEvent e d).lanes = d.lanes := by
  unfold rackEvent; dsimp only; split_ifs <;> simp
@[simp] theorem rackEvent_captures (e : Entry) : (rackEvent e d).captures = d.captures := by
  unfold rackEvent; dsimp only; split_ifs <;> simp
@[simp] theorem rackEvent_pins (e : Entry) : (rackEvent e d).pins = d.pins := by
  unfold rackEvent; dsimp only; split_ifs <;> simp
@[simp] theorem rackEvent_bench (e : Entry) : (rackEvent e d).bench = d.bench := by
  unfold rackEvent; dsimp only; split_ifs <;> simp
@[simp] theorem rackEvent_now (e : Entry) : (rackEvent e d).now = d.now := by
  unfold rackEvent; dsimp only; split_ifs <;> simp
@[simp] theorem settleFound_view (e : Entry) (c : Nat) : (settleFound e c d).view = d.view := by
  unfold settleFound; dsimp only; split_ifs <;> simp
@[simp] theorem settleFound_power (e : Entry) (c : Nat) : (settleFound e c d).power = d.power := by
  unfold settleFound; dsimp only; split_ifs <;> simp
@[simp] theorem settleFound_pattern (e : Entry) (c : Nat) : (settleFound e c d).pattern = d.pattern := by
  unfold settleFound; dsimp only; split_ifs <;> simp
@[simp] theorem settleFound_lanes (e : Entry) (c : Nat) : (settleFound e c d).lanes = d.lanes := by
  unfold settleFound; dsimp only; split_ifs <;> simp
@[simp] theorem settleFound_captures (e : Entry) (c : Nat) : (settleFound e c d).captures = d.captures := by
  unfold settleFound; dsimp only; split_ifs <;> simp
@[simp] theorem settleFound_pins (e : Entry) (c : Nat) : (settleFound e c d).pins = d.pins := by
  unfold settleFound; dsimp only; split_ifs <;> simp
@[simp] theorem settleFound_bench (e : Entry) (c : Nat) : (settleFound e c d).bench = d.bench := by
  unfold settleFound; dsimp only; split_ifs <;> simp
@[simp] theorem settleFound_now (e : Entry) (c : Nat) : (settleFound e c d).now = d.now := by
  unfold settleFound; dsimp only; split_ifs <;> simp
@[simp] theorem settleFound_job (e : Entry) (c : Nat) : (settleFound e c d).job = d.job := by
  unfold settleFound; dsimp only; split_ifs <;> simp
@[simp] theorem settleNew_view (e : Entry) (c : Nat) : (settleNew e c d).view = d.view := by
  unfold settleNew; dsimp only; split_ifs <;> simp
@[simp] theorem settleNew_power (e : Entry) (c : Nat) : (settleNew e c d).power = d.power := by
  unfold settleNew; dsimp only; split_ifs <;> simp
@[simp] theorem settleNew_pattern (e : Entry) (c : Nat) : (settleNew e c d).pattern = d.pattern := by
  unfold settleNew; dsimp only; split_ifs <;> simp
@[simp] theorem settleNew_lanes (e : Entry) (c : Nat) : (settleNew e c d).lanes = d.lanes := by
  unfold settleNew; dsimp only; split_ifs <;> simp
@[simp] theorem settleNew_captures (e : Entry) (c : Nat) : (settleNew e c d).captures = d.captures := by
  unfold settleNew; dsimp only; split_ifs <;> simp
@[simp] theorem settleNew_pins (e : Entry) (c : Nat) : (settleNew e c d).pins = d.pins := by
  unfold settleNew; dsimp only; split_ifs <;> simp
@[simp] theorem settleNew_bench (e : Entry) (c : Nat) : (settleNew e c d).bench = d.bench := by
  unfold settleNew; dsimp only; split_ifs <;> simp
@[simp] theorem settleNew_now (e : Entry) (c : Nat) : (settleNew e c d).now = d.now := by
  unfold settleNew; dsimp only; split_ifs <;> simp
@[simp] theorem settleNew_job (e : Entry) (c : Nat) : (settleNew e c d).job = d.job := by
  unfold settleNew; dsimp only; split_ifs <;> simp
@[simp] theorem evict_view (r : SuspectRecord) : (evict r d).view = d.view := by
  rfl
@[simp] theorem evict_power (r : SuspectRecord) : (evict r d).power = d.power := by
  rfl
@[simp] theorem evict_pattern (r : SuspectRecord) : (evict r d).pattern = d.pattern := by
  rfl
@[simp] theorem evict_lanes (r : SuspectRecord) : (evict r d).lanes = d.lanes := by
  rfl
@[simp] theorem evict_captures (r : SuspectRecord) : (evict r d).captures = d.captures := by
  rfl
@[simp] theorem evict_pins (r : SuspectRecord) : (evict r d).pins = d.pins := by
  rfl
@[simp] theorem evict_bench (r : SuspectRecord) : (evict r d).bench = d.bench := by
  rfl
@[simp] theorem evict_now (r : SuspectRecord) : (evict r d).now = d.now := by
  rfl
@[simp] theorem evict_job (r : SuspectRecord) : (evict r d).job = d.job := by
  rfl
@[simp] theorem evict_link (r : SuspectRecord) : (evict r d).link = d.link := by
  rfl
@[simp] theorem evict_causes (r : SuspectRecord) : (evict r d).causes = d.causes := by
  rfl
@[simp] theorem dropEntry_view (e : Entry) : (dropEntry e d).view = d.view := by
  simp [dropEntry]
@[simp] theorem dropEntry_power (e : Entry) : (dropEntry e d).power = d.power := by
  simp [dropEntry]
@[simp] theorem dropEntry_pattern (e : Entry) : (dropEntry e d).pattern = d.pattern := by
  simp [dropEntry]
@[simp] theorem dropEntry_lanes (e : Entry) : (dropEntry e d).lanes = d.lanes := by
  simp [dropEntry]
@[simp] theorem dropEntry_captures (e : Entry) : (dropEntry e d).captures = d.captures := by
  simp [dropEntry]
@[simp] theorem dropEntry_pins (e : Entry) : (dropEntry e d).pins = d.pins := by
  simp [dropEntry]
@[simp] theorem dropEntry_bench (e : Entry) : (dropEntry e d).bench = d.bench := by
  simp [dropEntry]
@[simp] theorem dropEntry_now (e : Entry) : (dropEntry e d).now = d.now := by
  simp [dropEntry]
@[simp] theorem dropEntry_job (e : Entry) : (dropEntry e d).job = d.job := by
  simp [dropEntry]

/-- What a settle does, by the coincidence count, the table and the room in it (R121 to R125). -/
theorem settle_cases (e : Entry) :
    (3 ≤ coincidence d e.stamp ∧ settle e d = rackEvent e d) ∨
    (coincidence d e.stamp ≤ 2 ∧ hasRecord d.engine.table e.locus = true ∧
      settle e d = settleFound e (coincidence d e.stamp) d) ∨
    (coincidence d e.stamp ≤ 2 ∧ hasRecord d.engine.table e.locus = false ∧
      ((d.engine.table.length < 48 ∧ settle e d = settleNew e (coincidence d e.stamp) d) ∨
       (48 ≤ d.engine.table.length ∧
        ((∃ r, evictionChoice d.engine.table = some r ∧
            settle e d = settleNew e (coincidence d e.stamp) (evict r d)) ∨
         (evictionChoice d.engine.table = none ∧ settle e d = dropEntry e d))))) := by
  unfold settle
  dsimp only
  by_cases h3 : 3 ≤ coincidence d e.stamp
  · exact .inl ⟨h3, if_pos h3⟩
  · rw [if_neg h3]
    have h2 : coincidence d e.stamp ≤ 2 := by omega
    by_cases hr : hasRecord d.engine.table e.locus = true
    · exact .inr (.inl ⟨h2, hr, if_pos hr⟩)
    · rw [if_neg hr]
      refine .inr (.inr ⟨h2, by simpa using hr, ?_⟩)
      by_cases hl : d.engine.table.length < Config.tableLimit
      · exact .inl ⟨hl, if_pos hl⟩
      · rw [if_neg hl]
        refine .inr ⟨by simpa [Config.tableLimit] using hl, ?_⟩
        cases hc : evictionChoice d.engine.table with
        | some r => exact .inl ⟨r, rfl, rfl⟩
        | none => exact .inr ⟨rfl, rfl⟩

/-! A settle, an early settle and an event -/

@[simp] theorem settle_view (e : Entry) : (settle e d).view = d.view := by
  rcases settle_cases d e with ⟨-, h⟩ | ⟨-, -, h⟩ | ⟨-, -, ⟨-, h⟩ | ⟨-, ⟨r, -, h⟩ | ⟨-, h⟩⟩⟩ <;> rw [h] <;> simp
@[simp] theorem settle_power (e : Entry) : (settle e d).power = d.power := by
  rcases settle_cases d e with ⟨-, h⟩ | ⟨-, -, h⟩ | ⟨-, -, ⟨-, h⟩ | ⟨-, ⟨r, -, h⟩ | ⟨-, h⟩⟩⟩ <;> rw [h] <;> simp
@[simp] theorem settle_pattern (e : Entry) : (settle e d).pattern = d.pattern := by
  rcases settle_cases d e with ⟨-, h⟩ | ⟨-, -, h⟩ | ⟨-, -, ⟨-, h⟩ | ⟨-, ⟨r, -, h⟩ | ⟨-, h⟩⟩⟩ <;> rw [h] <;> simp
@[simp] theorem settle_lanes (e : Entry) : (settle e d).lanes = d.lanes := by
  rcases settle_cases d e with ⟨-, h⟩ | ⟨-, -, h⟩ | ⟨-, -, ⟨-, h⟩ | ⟨-, ⟨r, -, h⟩ | ⟨-, h⟩⟩⟩ <;> rw [h] <;> simp
@[simp] theorem settle_captures (e : Entry) : (settle e d).captures = d.captures := by
  rcases settle_cases d e with ⟨-, h⟩ | ⟨-, -, h⟩ | ⟨-, -, ⟨-, h⟩ | ⟨-, ⟨r, -, h⟩ | ⟨-, h⟩⟩⟩ <;> rw [h] <;> simp
@[simp] theorem settle_pins (e : Entry) : (settle e d).pins = d.pins := by
  rcases settle_cases d e with ⟨-, h⟩ | ⟨-, -, h⟩ | ⟨-, -, ⟨-, h⟩ | ⟨-, ⟨r, -, h⟩ | ⟨-, h⟩⟩⟩ <;> rw [h] <;> simp
@[simp] theorem settle_bench (e : Entry) : (settle e d).bench = d.bench := by
  rcases settle_cases d e with ⟨-, h⟩ | ⟨-, -, h⟩ | ⟨-, -, ⟨-, h⟩ | ⟨-, ⟨r, -, h⟩ | ⟨-, h⟩⟩⟩ <;> rw [h] <;> simp
@[simp] theorem settle_now (e : Entry) : (settle e d).now = d.now := by
  rcases settle_cases d e with ⟨-, h⟩ | ⟨-, -, h⟩ | ⟨-, -, ⟨-, h⟩ | ⟨-, ⟨r, -, h⟩ | ⟨-, h⟩⟩⟩ <;> rw [h] <;> simp

/-- The job across a settle: only its rack events may rise (R121, R175). -/
theorem settle_job (e : Entry) : (settle e d).job = { d.job with rackEvents := (settle e d).job.rackEvents } := by
  rcases settle_cases d e with ⟨-, h⟩ | ⟨-, -, h⟩ | ⟨-, -, ⟨-, h⟩ | ⟨-, ⟨r, -, h⟩ | ⟨-, h⟩⟩⟩ <;> rw [h] <;> simp
  unfold rackEvent
  dsimp only
  split_ifs <;> simp

@[simp] theorem earlySettle_view : (earlySettle d).view = d.view := by
  unfold earlySettle; split <;> simp
@[simp] theorem earlySettle_power : (earlySettle d).power = d.power := by
  unfold earlySettle; split <;> simp
@[simp] theorem earlySettle_pattern : (earlySettle d).pattern = d.pattern := by
  unfold earlySettle; split <;> simp
@[simp] theorem earlySettle_lanes : (earlySettle d).lanes = d.lanes := by
  unfold earlySettle; split <;> simp
@[simp] theorem earlySettle_captures : (earlySettle d).captures = d.captures := by
  unfold earlySettle; split <;> simp
@[simp] theorem earlySettle_pins : (earlySettle d).pins = d.pins := by
  unfold earlySettle; split <;> simp
@[simp] theorem earlySettle_bench : (earlySettle d).bench = d.bench := by
  unfold earlySettle; split <;> simp
@[simp] theorem earlySettle_now : (earlySettle d).now = d.now := by
  unfold earlySettle; split <;> simp
@[simp] theorem enqueue_view (l : Locus) (f : Frame) : (enqueue l f d).view = d.view := by
  rfl
@[simp] theorem enqueue_power (l : Locus) (f : Frame) : (enqueue l f d).power = d.power := by
  rfl
@[simp] theorem enqueue_pattern (l : Locus) (f : Frame) : (enqueue l f d).pattern = d.pattern := by
  rfl
@[simp] theorem enqueue_lanes (l : Locus) (f : Frame) : (enqueue l f d).lanes = d.lanes := by
  rfl
@[simp] theorem enqueue_captures (l : Locus) (f : Frame) : (enqueue l f d).captures = d.captures := by
  rfl
@[simp] theorem enqueue_pins (l : Locus) (f : Frame) : (enqueue l f d).pins = d.pins := by
  rfl
@[simp] theorem enqueue_bench (l : Locus) (f : Frame) : (enqueue l f d).bench = d.bench := by
  rfl
@[simp] theorem enqueue_now (l : Locus) (f : Frame) : (enqueue l f d).now = d.now := by
  rfl
@[simp] theorem enqueue_job (l : Locus) (f : Frame) : (enqueue l f d).job = d.job := by
  rfl
@[simp] theorem enqueue_link (l : Locus) (f : Frame) : (enqueue l f d).link = d.link := by
  rfl
@[simp] theorem enqueue_causes (l : Locus) (f : Frame) : (enqueue l f d).causes = d.causes := by
  rfl
@[simp] theorem tallyEvent_view (l : Locus) (f : Frame) : (tallyEvent l f d).view = d.view := by
  unfold tallyEvent; dsimp only; split_ifs <;> simp
@[simp] theorem tallyEvent_power (l : Locus) (f : Frame) : (tallyEvent l f d).power = d.power := by
  unfold tallyEvent; dsimp only; split_ifs <;> simp
@[simp] theorem tallyEvent_pattern (l : Locus) (f : Frame) : (tallyEvent l f d).pattern = d.pattern := by
  unfold tallyEvent; dsimp only; split_ifs <;> simp
@[simp] theorem tallyEvent_lanes (l : Locus) (f : Frame) : (tallyEvent l f d).lanes = d.lanes := by
  unfold tallyEvent; dsimp only; split_ifs <;> simp
@[simp] theorem tallyEvent_captures (l : Locus) (f : Frame) : (tallyEvent l f d).captures = d.captures := by
  unfold tallyEvent; dsimp only; split_ifs <;> simp
@[simp] theorem tallyEvent_pins (l : Locus) (f : Frame) : (tallyEvent l f d).pins = d.pins := by
  unfold tallyEvent; dsimp only; split_ifs <;> simp
@[simp] theorem tallyEvent_bench (l : Locus) (f : Frame) : (tallyEvent l f d).bench = d.bench := by
  unfold tallyEvent; dsimp only; split_ifs <;> simp
@[simp] theorem tallyEvent_now (l : Locus) (f : Frame) : (tallyEvent l f d).now = d.now := by
  unfold tallyEvent; dsimp only; split_ifs <;> simp
@[simp] theorem tallyEvent_job (l : Locus) (f : Frame) : (tallyEvent l f d).job = d.job := by
  unfold tallyEvent; dsimp only; split_ifs <;> simp
@[simp] theorem tallyEvent_causes (l : Locus) (f : Frame) : (tallyEvent l f d).causes = d.causes := by
  unfold tallyEvent; dsimp only; split_ifs <;> simp
@[simp] theorem takeEvent_view (l : Locus) (f : Frame) : (takeEvent l f d).view = d.view := by
  unfold takeEvent; dsimp only; split_ifs <;> simp
@[simp] theorem takeEvent_power (l : Locus) (f : Frame) : (takeEvent l f d).power = d.power := by
  unfold takeEvent; dsimp only; split_ifs <;> simp
@[simp] theorem takeEvent_pattern (l : Locus) (f : Frame) : (takeEvent l f d).pattern = d.pattern := by
  unfold takeEvent; dsimp only; split_ifs <;> simp
@[simp] theorem takeEvent_lanes (l : Locus) (f : Frame) : (takeEvent l f d).lanes = d.lanes := by
  unfold takeEvent; dsimp only; split_ifs <;> simp
@[simp] theorem takeEvent_captures (l : Locus) (f : Frame) : (takeEvent l f d).captures = d.captures := by
  unfold takeEvent; dsimp only; split_ifs <;> simp
@[simp] theorem takeEvent_pins (l : Locus) (f : Frame) : (takeEvent l f d).pins = d.pins := by
  unfold takeEvent; dsimp only; split_ifs <;> simp
@[simp] theorem takeEvent_bench (l : Locus) (f : Frame) : (takeEvent l f d).bench = d.bench := by
  unfold takeEvent; dsimp only; split_ifs <;> simp
@[simp] theorem takeEvent_now (l : Locus) (f : Frame) : (takeEvent l f d).now = d.now := by
  unfold takeEvent; dsimp only; split_ifs <;> simp

@[simp] theorem lane_takeEvent (l : Locus) (f : Frame) (i : LaneId) : lane (takeEvent l f d) i = lane d i := by
  simp [lane]

@[simp] theorem capture_takeEvent (l : Locus) (f : Frame) (i : LaneId) :
    capture (takeEvent l f d) i = capture d i := by
  simp [capture]

@[simp] theorem lane_settle (e : Entry) (i : LaneId) : lane (settle e d) i = lane d i := by simp [lane]

@[simp] theorem capture_settle (e : Entry) (i : LaneId) : capture (settle e d) i = capture d i := by simp [capture]

end Sys2Proof.Machine
end

