-- ==== Sys2Proof/Laws/Bench.lean ====
section
/-! SUPPORT. The handling of a command item, by its three outcomes (R181), in the terms of Safety.lean. -/

namespace Sys2Proof.Machine

open Sys2Proof.Safety

variable (d : Device)

/-- With eight replies queued an item only adds REPLY-OVERFLOW (R181). -/
theorem handleItem_full (kind seq : Byte) (ok : Bool) (body : Device → Device × Answer)
    (h : 8 ≤ d.bench.replies.length) : handleItem kind seq ok body d = addError .replyOverflow d := by
  unfold handleItem
  exact if_pos h

/-- With room, an item of the wrong length is answered RANGE and not executed (R181). -/
theorem handleItem_wrongLength (kind seq : Byte) (body : Device → Device × Answer)
    (h : d.bench.replies.length < 8) :
    handleItem kind seq false body d = offerReply kind seq { reason := .range } d := by
  unfold handleItem Config.replyQueueLimit
  rw [if_neg (by omega)]
  rfl

/-- With room, an item of the right length is executed, and its answer offered (R181). -/
theorem handleItem_executed (kind seq : Byte) (body : Device → Device × Answer)
    (h : d.bench.replies.length < 8) :
    handleItem kind seq true body d = offerReply kind seq (body d).2 (body d).1 := by
  unfold handleItem Config.replyQueueLimit
  rw [if_neg (by omega)]
  rfl

/-- An answer without effect is the machine with the reply queued (R182). -/
theorem offerReply_answered (s : State) (kind seq : Byte) (a : Answer) :
    { s with toDevice := offerReply kind seq a s.toDevice } = answered s kind seq a.reason a.more a.data := by
  unfold offerReply answered
  split_ifs <;> rfl

@[simp] theorem offerReply_link (kind seq : Byte) (a : Answer) : (offerReply kind seq a d).link = d.link := by
  unfold offerReply; split_ifs <;> rfl
@[simp] theorem offerReply_view (kind seq : Byte) (a : Answer) : (offerReply kind seq a d).view = d.view := by
  unfold offerReply; split_ifs <;> rfl
@[simp] theorem offerReply_power (kind seq : Byte) (a : Answer) : (offerReply kind seq a d).power = d.power := by
  unfold offerReply; split_ifs <;> rfl
@[simp] theorem offerReply_pattern (kind seq : Byte) (a : Answer) : (offerReply kind seq a d).pattern = d.pattern := by
  unfold offerReply; split_ifs <;> rfl
@[simp] theorem offerReply_lanes (kind seq : Byte) (a : Answer) : (offerReply kind seq a d).lanes = d.lanes := by
  unfold offerReply; split_ifs <;> rfl
@[simp] theorem offerReply_captures (kind seq : Byte) (a : Answer) : (offerReply kind seq a d).captures = d.captures := by
  unfold offerReply; split_ifs <;> rfl
@[simp] theorem offerReply_pins (kind seq : Byte) (a : Answer) : (offerReply kind seq a d).pins = d.pins := by
  unfold offerReply; split_ifs <;> rfl
@[simp] theorem offerReply_engine (kind seq : Byte) (a : Answer) : (offerReply kind seq a d).engine = d.engine := by
  unfold offerReply; split_ifs <;> rfl
@[simp] theorem offerReply_causes (kind seq : Byte) (a : Answer) : (offerReply kind seq a d).causes = d.causes := by
  unfold offerReply; split_ifs <;> rfl
@[simp] theorem offerReply_job (kind seq : Byte) (a : Answer) : (offerReply kind seq a d).job = d.job := by
  unfold offerReply; split_ifs <;> rfl
@[simp] theorem offerReply_now (kind seq : Byte) (a : Answer) : (offerReply kind seq a d).now = d.now := by
  unfold offerReply; split_ifs <;> rfl

/-- The bench handler after an answer (R24, R181). -/
theorem offerReply_bench (kind seq : Byte) (a : Answer) : (offerReply kind seq a d).bench =
    { d.bench with replies := if d.link.mode = .listenOnly then d.bench.replies
                              else d.bench.replies ++ [⟨kind, seq, a.reason, a.more, a.data⟩] } := by
  unfold offerReply; split_ifs <;> rfl

end Sys2Proof.Machine
end

