-- ==== Sys2Proof/Laws/Job.lean ====
section
/-! SUPPORT. What requests to the lanes, power requests and the closing test do, and what they leave alone. -/

namespace Sys2Proof.Machine

variable (d : Device)

/-! ## Requests to the lanes (R89, R91, R92) -/

/-- A lane after a request, by the tables of R89, R91 and R92. -/
def afterRequest (r : LaneRequest) (now : Nat) (l : Lane) : Lane :=
  match r, l.state with
  | .finish, .playing => { l with state := .finishing }
  | .finish, .held => { l with resume := some .finishing }
  | .hold, .playing => heldLane now .playing l
  | .hold, .finishing => heldLane now .finishing l
  | .stop, .playing => stoppedLane l
  | .stop, .finishing => stoppedLane l
  | .stop, .held => stoppedLane l
  | .powerLeft, .playing => stoppedLane l
  | .powerLeft, .finishing => stoppedLane l
  | _, _ => l

/-- Whether a request stops a lane in a state, and so abandons its window (R91). -/
def requestStops (r : LaneRequest) (st : LaneState) : Bool :=
  match r with
  | .stop => st.reading
  | .powerLeft => st.going
  | .finish => false
  | .hold => false

/-- A request to one lane, by what it does to the lane and to its capture lane. -/
theorem takeRequest_eq (r : LaneRequest) (i : LaneId) :
    takeRequest r i d = { d with
      lanes := d.lanes.set i (afterRequest r d.now (lane d i)),
      captures := if requestStops r (lane d i).state then d.captures.set i { capture d i with window := none }
                  else d.captures } := by
  have hs : d.lanes.set i (lane d i) = d.lanes := by simp [lane]
  unfold takeRequest
  dsimp only
  cases r <;> cases h : (lane d i).state <;>
    simp [afterRequest, requestStops, h, LaneState.reading, LaneState.going, hs, setLane, abandon, setCapture]

/-- The lanes after a request to one of them. -/
theorem lane_takeRequest (r : LaneRequest) (i j : LaneId) :
    lane (takeRequest r i d) j = if j = i then afterRequest r d.now (lane d i) else lane d j := by
  rw [takeRequest_eq]
  by_cases h : j = i
  · subst h; simp [lane]
  · have : i.val ≠ j.val := fun e => h (Fin.ext e.symm)
    simp [lane, h, Vector.getElem_set_ne, this]

/-- The capture lanes after a request to one lane. -/
theorem capture_takeRequest (r : LaneRequest) (i j : LaneId) :
    capture (takeRequest r i d) j =
      if j = i ∧ requestStops r (lane d i).state = true then { capture d i with window := none }
      else capture d j := by
  rw [takeRequest_eq]
  by_cases h : j = i
  · subst h
    by_cases hr : requestStops r (lane d j).state = true <;> simp [capture, hr]
  · have : i.val ≠ j.val := fun e => h (Fin.ext e.symm)
    by_cases hr : requestStops r (lane d i).state = true <;> simp [capture, h, hr, Vector.getElem_set_ne, this]

@[simp] theorem takeRequest_link (r : LaneRequest) (i : LaneId) : (takeRequest r i d).link = d.link := by
  rw [takeRequest_eq]
@[simp] theorem takeRequest_view (r : LaneRequest) (i : LaneId) : (takeRequest r i d).view = d.view := by
  rw [takeRequest_eq]
@[simp] theorem takeRequest_power (r : LaneRequest) (i : LaneId) : (takeRequest r i d).power = d.power := by
  rw [takeRequest_eq]
@[simp] theorem takeRequest_pattern (r : LaneRequest) (i : LaneId) : (takeRequest r i d).pattern = d.pattern := by
  rw [takeRequest_eq]
@[simp] theorem takeRequest_pins (r : LaneRequest) (i : LaneId) : (takeRequest r i d).pins = d.pins := by
  rw [takeRequest_eq]
@[simp] theorem takeRequest_engine (r : LaneRequest) (i : LaneId) : (takeRequest r i d).engine = d.engine := by
  rw [takeRequest_eq]
@[simp] theorem takeRequest_causes (r : LaneRequest) (i : LaneId) : (takeRequest r i d).causes = d.causes := by
  rw [takeRequest_eq]
@[simp] theorem takeRequest_job (r : LaneRequest) (i : LaneId) : (takeRequest r i d).job = d.job := by
  rw [takeRequest_eq]
@[simp] theorem takeRequest_bench (r : LaneRequest) (i : LaneId) : (takeRequest r i d).bench = d.bench := by
  rw [takeRequest_eq]
@[simp] theorem takeRequest_now (r : LaneRequest) (i : LaneId) : (takeRequest r i d).now = d.now := by
  rw [takeRequest_eq]

theorem giveLanes_eq (r : LaneRequest) :
    giveLanes r d = takeRequest r 3 (takeRequest r 2 (takeRequest r 1 (takeRequest r 0 d))) := rfl

@[simp] theorem giveLanes_link (r : LaneRequest) : (giveLanes r d).link = d.link := by simp [giveLanes_eq]
@[simp] theorem giveLanes_view (r : LaneRequest) : (giveLanes r d).view = d.view := by simp [giveLanes_eq]
@[simp] theorem giveLanes_power (r : LaneRequest) : (giveLanes r d).power = d.power := by simp [giveLanes_eq]
@[simp] theorem giveLanes_pattern (r : LaneRequest) : (giveLanes r d).pattern = d.pattern := by simp [giveLanes_eq]
@[simp] theorem giveLanes_pins (r : LaneRequest) : (giveLanes r d).pins = d.pins := by simp [giveLanes_eq]
@[simp] theorem giveLanes_engine (r : LaneRequest) : (giveLanes r d).engine = d.engine := by simp [giveLanes_eq]
@[simp] theorem giveLanes_causes (r : LaneRequest) : (giveLanes r d).causes = d.causes := by simp [giveLanes_eq]
@[simp] theorem giveLanes_job (r : LaneRequest) : (giveLanes r d).job = d.job := by simp [giveLanes_eq]
@[simp] theorem giveLanes_bench (r : LaneRequest) : (giveLanes r d).bench = d.bench := by simp [giveLanes_eq]
@[simp] theorem giveLanes_now (r : LaneRequest) : (giveLanes r d).now = d.now := by simp [giveLanes_eq]

/-- Each lane after a request given to the four. -/
@[simp] theorem lane_giveLanes (r : LaneRequest) (i : LaneId) :
    lane (giveLanes r d) i = afterRequest r d.now (lane d i) := by
  rw [giveLanes_eq]
  fin_cases i <;> simp [lane_takeRequest]

/-- Each capture lane after a request given to the four lanes. -/
@[simp] theorem capture_giveLanes (r : LaneRequest) (i : LaneId) :
    capture (giveLanes r d) i =
      if requestStops r (lane d i).state = true then { capture d i with window := none } else capture d i := by
  rw [giveLanes_eq]
  fin_cases i <;> simp [capture_takeRequest, lane_takeRequest]

/-! ## Power requests (R48) -/

@[simp] theorem requestOff_link : (requestOff d).link = d.link := by
  unfold requestOff; dsimp only; split_ifs <;> simp
@[simp] theorem requestOff_view : (requestOff d).view = d.view := by
  unfold requestOff; dsimp only; split_ifs <;> simp
@[simp] theorem requestOff_pattern : (requestOff d).pattern = d.pattern := by
  unfold requestOff; dsimp only; split_ifs <;> simp
@[simp] theorem requestOff_pins : (requestOff d).pins = d.pins := by
  unfold requestOff; dsimp only; split_ifs <;> simp
@[simp] theorem requestOff_engine : (requestOff d).engine = d.engine := by
  unfold requestOff; dsimp only; split_ifs <;> simp
@[simp] theorem requestOff_causes : (requestOff d).causes = d.causes := by
  unfold requestOff; dsimp only; split_ifs <;> simp
@[simp] theorem requestOff_job : (requestOff d).job = d.job := by
  unfold requestOff; dsimp only; split_ifs <;> simp
@[simp] theorem requestOff_bench : (requestOff d).bench = d.bench := by
  unfold requestOff; dsimp only; split_ifs <;> simp
@[simp] theorem requestOff_now : (requestOff d).now = d.now := by
  unfold requestOff; dsimp only; split_ifs <;> simp

@[simp] theorem requestOff_power : (requestOff d).power = powerOffRequest d.power := by
  unfold requestOff; dsimp only; split_ifs <;> simp

/-- The lanes across a power-off request: going lanes stop where power leaves ON (R48, R91). -/
theorem lane_requestOff (i : LaneId) :
    lane (requestOff d) i = if d.power.state = .on then afterRequest .powerLeft d.now (lane d i) else lane d i := by
  unfold requestOff; dsimp only; split_ifs <;> simp

/-- The sequencer after a power-off request (R48). -/
theorem powerOffRequest_state (p : Power) : (powerOffRequest p).state =
    match p.state with
    | .off => .off
    | .asking => .off
    | .rising => .falling
    | .on => .falling
    | .falling => .falling
    | .tripped => .off := by
  unfold powerOffRequest
  cases h : p.state <;> simp [openTo, h]

/-- The sequencer after a power request (R48). -/
theorem powerRequest_state (p : Power) : (powerRequest p).state =
    match p.state with
    | .off => .asking
    | .tripped => .asking
    | .asking => .asking
    | .rising => .rising
    | .on => .on
    | .falling => .falling := by
  unfold powerRequest
  cases h : p.state <;> simp [h]

/-! ## The closing test (R172, R173) -/

/-- What the closing test can do: nothing; a power-off request; or leaving CLOSING, after such a request or without
one. -/
theorem closingTest_cases :
    closingTest d = d ∨ closingTest d = requestOff d ∨ closingTest d = leaveClosing d ∨
      closingTest d = leaveClosing (requestOff d) := by
  unfold closingTest leaveIfDone
  split_ifs <;> simp

@[simp] theorem leaveClosing_view : (leaveClosing d).view = d.view := by simp [leaveClosing]
@[simp] theorem leaveClosing_pattern : (leaveClosing d).pattern = d.pattern := by simp [leaveClosing]
@[simp] theorem leaveClosing_pins : (leaveClosing d).pins = d.pins := by simp [leaveClosing]
@[simp] theorem leaveClosing_engine : (leaveClosing d).engine = d.engine := by simp [leaveClosing]
@[simp] theorem leaveClosing_bench : (leaveClosing d).bench = d.bench := by simp [leaveClosing]
@[simp] theorem leaveClosing_now : (leaveClosing d).now = d.now := by simp [leaveClosing]
@[simp] theorem leaveClosing_power : (leaveClosing d).power = d.power := by simp [leaveClosing]
@[simp] theorem leaveClosing_lanes : (leaveClosing d).lanes = d.lanes := by simp [leaveClosing]
@[simp] theorem leaveClosing_captures : (leaveClosing d).captures = d.captures := by simp [leaveClosing]

@[simp] theorem closingTest_view : (closingTest d).view = d.view := by
  rcases closingTest_cases d with h | h | h | h <;> rw [h] <;> simp
@[simp] theorem closingTest_pattern : (closingTest d).pattern = d.pattern := by
  rcases closingTest_cases d with h | h | h | h <;> rw [h] <;> simp
@[simp] theorem closingTest_pins : (closingTest d).pins = d.pins := by
  rcases closingTest_cases d with h | h | h | h <;> rw [h] <;> simp
@[simp] theorem closingTest_engine : (closingTest d).engine = d.engine := by
  rcases closingTest_cases d with h | h | h | h <;> rw [h] <;> simp
@[simp] theorem closingTest_bench : (closingTest d).bench = d.bench := by
  rcases closingTest_cases d with h | h | h | h <;> rw [h] <;> simp
@[simp] theorem closingTest_now : (closingTest d).now = d.now := by
  rcases closingTest_cases d with h | h | h | h <;> rw [h] <;> simp

/-- Outside CLOSING the test does nothing (R172). -/
theorem closingTest_of_state_ne (h : d.job.state ≠ .closing) : closingTest d = d := by
  unfold closingTest
  rw [if_neg (fun hc => h hc.1)]

/-! ## Settings (R160, R161) -/

@[simp] theorem inForce_view (n : NamedSettings) : (inForce n d).view = d.view := by
  unfold inForce noticesInForce; dsimp only; split_ifs <;> simp
@[simp] theorem inForce_pattern (n : NamedSettings) : (inForce n d).pattern = d.pattern := by
  unfold inForce noticesInForce; dsimp only; split_ifs <;> simp
@[simp] theorem inForce_lanes (n : NamedSettings) : (inForce n d).lanes = d.lanes := by
  unfold inForce noticesInForce; dsimp only; split_ifs <;> simp
@[simp] theorem inForce_captures (n : NamedSettings) : (inForce n d).captures = d.captures := by
  unfold inForce noticesInForce; dsimp only; split_ifs <;> simp
@[simp] theorem inForce_pins (n : NamedSettings) : (inForce n d).pins = d.pins := by
  unfold inForce noticesInForce; dsimp only; split_ifs <;> simp
@[simp] theorem inForce_engine (n : NamedSettings) : (inForce n d).engine = d.engine := by
  unfold inForce noticesInForce; dsimp only; split_ifs <;> simp
@[simp] theorem inForce_bench (n : NamedSettings) : (inForce n d).bench = d.bench := by
  unfold inForce noticesInForce; dsimp only; split_ifs <;> simp
@[simp] theorem inForce_now (n : NamedSettings) : (inForce n d).now = d.now := by
  unfold inForce noticesInForce; dsimp only; split_ifs <;> simp

/-- The sequencer and monitor as named settings come into force (R46, R63, R161). -/
@[simp] theorem inForce_power (n : NamedSettings) : (inForce n d).power = monitorInForce n d.power := by
  unfold inForce noticesInForce; dsimp only; split_ifs <;> simp

/-- The job as named settings come into force: its own three settings, and nothing of its state (R161). -/
@[simp] theorem inForce_job (n : NamedSettings) : (inForce n d).job =
    { d.job with rackLimit := n.rackLimit.getD d.job.rackLimit, period := n.period.getD d.job.period,
                 offDwell := n.offDwell.getD d.job.offDwell } := by
  unfold inForce noticesInForce; dsimp only; split_ifs <;> simp

/-- Settings coming into force change no power state and no switch (R46). -/
@[simp] theorem monitorInForce_state (n : NamedSettings) (p : Power) : (monitorInForce n p).state = p.state := by
  unfold monitorInForce; dsimp only; split_ifs <;> rfl

@[simp] theorem monitorInForce_switch (n : NamedSettings) (p : Power) :
    (monitorInForce n p).switchClosed = p.switchClosed := by
  unfold monitorInForce; dsimp only; split_ifs <;> rfl

/-- The pair of thresholds in force keeps its eight half-degrees (R63). -/
theorem mergeMonitor_pair (n : NamedSettings) {s : MonitorSettings} (h : s.warmAt + 8 ≤ s.hotAt) :
    (mergeMonitor n s).warmAt + 8 ≤ (mergeMonitor n s).hotAt := by
  unfold mergeMonitor namesThreshold raiseHot
  dsimp only
  cases hw : n.warmAt <;> cases hh : n.hotAt <;> simp [h]

end Sys2Proof.Machine
end

