-- ==== Sys2Proof/Laws/Lanes.lean ====
section
/-! SUPPORT. Strobes, windows, code runs and step events: what they leave alone. The peer view, pattern memory, the capture pins,
the bench handler and the time stand through all of them. -/

namespace Sys2Proof.Machine

variable (d : Device)

/-! ## Capture lanes -/

@[simp] theorem takeSample_link (i : LaneId) : (takeSample i d).link = d.link := by
  rfl
@[simp] theorem takeSample_view (i : LaneId) : (takeSample i d).view = d.view := by
  rfl
@[simp] theorem takeSample_power (i : LaneId) : (takeSample i d).power = d.power := by
  rfl
@[simp] theorem takeSample_pattern (i : LaneId) : (takeSample i d).pattern = d.pattern := by
  rfl
@[simp] theorem takeSample_lanes (i : LaneId) : (takeSample i d).lanes = d.lanes := by
  rfl
@[simp] theorem takeSample_pins (i : LaneId) : (takeSample i d).pins = d.pins := by
  rfl
@[simp] theorem takeSample_engine (i : LaneId) : (takeSample i d).engine = d.engine := by
  rfl
@[simp] theorem takeSample_causes (i : LaneId) : (takeSample i d).causes = d.causes := by
  rfl
@[simp] theorem takeSample_job (i : LaneId) : (takeSample i d).job = d.job := by
  rfl
@[simp] theorem takeSample_bench (i : LaneId) : (takeSample i d).bench = d.bench := by
  rfl
@[simp] theorem takeSample_now (i : LaneId) : (takeSample i d).now = d.now := by
  rfl
@[simp] theorem judgePin_view (i : LaneId) (tag failing mask : Byte) (p : Fin 8) : (judgePin i tag failing mask d p).view = d.view := by
  unfold judgePin; split_ifs <;> simp
@[simp] theorem judgePin_power (i : LaneId) (tag failing mask : Byte) (p : Fin 8) : (judgePin i tag failing mask d p).power = d.power := by
  unfold judgePin; split_ifs <;> simp
@[simp] theorem judgePin_pattern (i : LaneId) (tag failing mask : Byte) (p : Fin 8) : (judgePin i tag failing mask d p).pattern = d.pattern := by
  unfold judgePin; split_ifs <;> simp
@[simp] theorem judgePin_lanes (i : LaneId) (tag failing mask : Byte) (p : Fin 8) : (judgePin i tag failing mask d p).lanes = d.lanes := by
  unfold judgePin; split_ifs <;> simp
@[simp] theorem judgePin_captures (i : LaneId) (tag failing mask : Byte) (p : Fin 8) : (judgePin i tag failing mask d p).captures = d.captures := by
  unfold judgePin; split_ifs <;> simp
@[simp] theorem judgePin_pins (i : LaneId) (tag failing mask : Byte) (p : Fin 8) : (judgePin i tag failing mask d p).pins = d.pins := by
  unfold judgePin; split_ifs <;> simp
@[simp] theorem judgePin_bench (i : LaneId) (tag failing mask : Byte) (p : Fin 8) : (judgePin i tag failing mask d p).bench = d.bench := by
  unfold judgePin; split_ifs <;> simp
@[simp] theorem judgePin_now (i : LaneId) (tag failing mask : Byte) (p : Fin 8) : (judgePin i tag failing mask d p).now = d.now := by
  unfold judgePin; split_ifs <;> simp

/-- A strobe's pins, one after another, leave these blocks alone. -/
theorem judgePins_frame (i : LaneId) (tag failing mask : Byte) (ps : List (Fin 8)) :
    let d' := ps.foldl (judgePin i tag failing mask) d
    d'.view = d.view ∧ d'.power = d.power ∧ d'.pattern = d.pattern ∧ d'.lanes = d.lanes ∧
      d'.captures = d.captures ∧ d'.pins = d.pins ∧ d'.bench = d.bench ∧ d'.now = d.now := by
  induction ps generalizing d with
  | nil => simp
  | cons p ps ih => simpa using ih (judgePin i tag failing mask d p)

/-- A strobe leaves these blocks alone. -/
theorem strobe_frame (i : LaneId) (tag expected mask : Byte) :
    let d' := strobe i tag expected mask d
    d'.view = d.view ∧ d'.power = d.power ∧ d'.pattern = d.pattern ∧ d'.lanes = d.lanes ∧ d'.pins = d.pins ∧
      d'.bench = d.bench ∧ d'.now = d.now := by
  unfold strobe
  dsimp only
  split_ifs
  · simp
  · have h := judgePins_frame d i tag (((capture d i).sample ^^^ expected) &&& mask) mask (List.finRange 8)
    dsimp only at h
    simp [h]

@[simp] theorem strobe_view (i : LaneId) (tag expected mask : Byte) :
    (strobe i tag expected mask d).view = d.view := by
  have h := strobe_frame d i tag expected mask
  dsimp only at h
  simp [h]
@[simp] theorem strobe_power (i : LaneId) (tag expected mask : Byte) :
    (strobe i tag expected mask d).power = d.power := by
  have h := strobe_frame d i tag expected mask
  dsimp only at h
  simp [h]
@[simp] theorem strobe_pattern (i : LaneId) (tag expected mask : Byte) :
    (strobe i tag expected mask d).pattern = d.pattern := by
  have h := strobe_frame d i tag expected mask
  dsimp only at h
  simp [h]
@[simp] theorem strobe_lanes (i : LaneId) (tag expected mask : Byte) :
    (strobe i tag expected mask d).lanes = d.lanes := by
  have h := strobe_frame d i tag expected mask
  dsimp only at h
  simp [h]
@[simp] theorem strobe_pins (i : LaneId) (tag expected mask : Byte) :
    (strobe i tag expected mask d).pins = d.pins := by
  have h := strobe_frame d i tag expected mask
  dsimp only at h
  simp [h]
@[simp] theorem strobe_bench (i : LaneId) (tag expected mask : Byte) :
    (strobe i tag expected mask d).bench = d.bench := by
  have h := strobe_frame d i tag expected mask
  dsimp only at h
  simp [h]
@[simp] theorem strobe_now (i : LaneId) (tag expected mask : Byte) :
    (strobe i tag expected mask d).now = d.now := by
  have h := strobe_frame d i tag expected mask
  dsimp only at h
  simp [h]
@[simp] theorem openWindow_view (i : LaneId) (tag : Byte) : (openWindow i tag d).view = d.view := by
  unfold openWindow; dsimp only; split_ifs <;> simp
@[simp] theorem openWindow_power (i : LaneId) (tag : Byte) : (openWindow i tag d).power = d.power := by
  unfold openWindow; dsimp only; split_ifs <;> simp
@[simp] theorem openWindow_pattern (i : LaneId) (tag : Byte) : (openWindow i tag d).pattern = d.pattern := by
  unfold openWindow; dsimp only; split_ifs <;> simp
@[simp] theorem openWindow_lanes (i : LaneId) (tag : Byte) : (openWindow i tag d).lanes = d.lanes := by
  unfold openWindow; dsimp only; split_ifs <;> simp
@[simp] theorem openWindow_pins (i : LaneId) (tag : Byte) : (openWindow i tag d).pins = d.pins := by
  unfold openWindow; dsimp only; split_ifs <;> simp
@[simp] theorem openWindow_engine (i : LaneId) (tag : Byte) : (openWindow i tag d).engine = d.engine := by
  unfold openWindow; dsimp only; split_ifs <;> simp
@[simp] theorem openWindow_job (i : LaneId) (tag : Byte) : (openWindow i tag d).job = d.job := by
  unfold openWindow; dsimp only; split_ifs <;> simp
@[simp] theorem openWindow_bench (i : LaneId) (tag : Byte) : (openWindow i tag d).bench = d.bench := by
  unfold openWindow; dsimp only; split_ifs <;> simp
@[simp] theorem openWindow_now (i : LaneId) (tag : Byte) : (openWindow i tag d).now = d.now := by
  unfold openWindow; dsimp only; split_ifs <;> simp
@[simp] theorem closeWindow_view (i : LaneId) (tag : Byte) (w : Word) : (closeWindow i tag w d).view = d.view := by
  unfold closeWindow; dsimp only; split_ifs <;> simp
@[simp] theorem closeWindow_power (i : LaneId) (tag : Byte) (w : Word) : (closeWindow i tag w d).power = d.power := by
  unfold closeWindow; dsimp only; split_ifs <;> simp
@[simp] theorem closeWindow_pattern (i : LaneId) (tag : Byte) (w : Word) : (closeWindow i tag w d).pattern = d.pattern := by
  unfold closeWindow; dsimp only; split_ifs <;> simp
@[simp] theorem closeWindow_lanes (i : LaneId) (tag : Byte) (w : Word) : (closeWindow i tag w d).lanes = d.lanes := by
  unfold closeWindow; dsimp only; split_ifs <;> simp
@[simp] theorem closeWindow_pins (i : LaneId) (tag : Byte) (w : Word) : (closeWindow i tag w d).pins = d.pins := by
  unfold closeWindow; dsimp only; split_ifs <;> simp
@[simp] theorem closeWindow_bench (i : LaneId) (tag : Byte) (w : Word) : (closeWindow i tag w d).bench = d.bench := by
  unfold closeWindow; dsimp only; split_ifs <;> simp
@[simp] theorem closeWindow_now (i : LaneId) (tag : Byte) (w : Word) : (closeWindow i tag w d).now = d.now := by
  unfold closeWindow; dsimp only; split_ifs <;> simp

/-! ## The job's part in a run -/

@[simp] theorem stagedInForce_view : (stagedInForce d).view = d.view := by
  simp [stagedInForce]
@[simp] theorem stagedInForce_pattern : (stagedInForce d).pattern = d.pattern := by
  simp [stagedInForce]
@[simp] theorem stagedInForce_lanes : (stagedInForce d).lanes = d.lanes := by
  simp [stagedInForce]
@[simp] theorem stagedInForce_captures : (stagedInForce d).captures = d.captures := by
  simp [stagedInForce]
@[simp] theorem stagedInForce_pins : (stagedInForce d).pins = d.pins := by
  simp [stagedInForce]
@[simp] theorem stagedInForce_engine : (stagedInForce d).engine = d.engine := by
  simp [stagedInForce]
@[simp] theorem stagedInForce_bench : (stagedInForce d).bench = d.bench := by
  simp [stagedInForce]
@[simp] theorem stagedInForce_now : (stagedInForce d).now = d.now := by
  simp [stagedInForce]
@[simp] theorem enterClosing_view (r : ClosingReason) : (enterClosing r d).view = d.view := by
  simp [enterClosing]
@[simp] theorem enterClosing_pattern (r : ClosingReason) : (enterClosing r d).pattern = d.pattern := by
  simp [enterClosing]
@[simp] theorem enterClosing_lanes (r : ClosingReason) : (enterClosing r d).lanes = d.lanes := by
  simp [enterClosing]
@[simp] theorem enterClosing_captures (r : ClosingReason) : (enterClosing r d).captures = d.captures := by
  simp [enterClosing]
@[simp] theorem enterClosing_pins (r : ClosingReason) : (enterClosing r d).pins = d.pins := by
  simp [enterClosing]
@[simp] theorem enterClosing_engine (r : ClosingReason) : (enterClosing r d).engine = d.engine := by
  simp [enterClosing]
@[simp] theorem enterClosing_bench (r : ClosingReason) : (enterClosing r d).bench = d.bench := by
  simp [enterClosing]
@[simp] theorem enterClosing_now (r : ClosingReason) : (enterClosing r d).now = d.now := by
  simp [enterClosing]
@[simp] theorem countCycle_view : (countCycle d).view = d.view := by
  simp [countCycle]
@[simp] theorem countCycle_pattern : (countCycle d).pattern = d.pattern := by
  simp [countCycle]
@[simp] theorem countCycle_lanes : (countCycle d).lanes = d.lanes := by
  simp [countCycle]
@[simp] theorem countCycle_captures : (countCycle d).captures = d.captures := by
  simp [countCycle]
@[simp] theorem countCycle_pins : (countCycle d).pins = d.pins := by
  simp [countCycle]
@[simp] theorem countCycle_bench : (countCycle d).bench = d.bench := by
  simp [countCycle]
@[simp] theorem countCycle_now : (countCycle d).now = d.now := by
  simp [countCycle]
@[simp] theorem jobPowerOff_view : (jobPowerOff d).view = d.view := by
  unfold jobPowerOff; split_ifs <;> simp
@[simp] theorem jobPowerOff_pattern : (jobPowerOff d).pattern = d.pattern := by
  unfold jobPowerOff; split_ifs <;> simp
@[simp] theorem jobPowerOff_pins : (jobPowerOff d).pins = d.pins := by
  unfold jobPowerOff; split_ifs <;> simp
@[simp] theorem jobPowerOff_engine : (jobPowerOff d).engine = d.engine := by
  unfold jobPowerOff; split_ifs <;> simp
@[simp] theorem jobPowerOff_bench : (jobPowerOff d).bench = d.bench := by
  unfold jobPowerOff; split_ifs <;> simp
@[simp] theorem jobPowerOff_now : (jobPowerOff d).now = d.now := by
  unfold jobPowerOff; split_ifs <;> simp
@[simp] theorem enterCycling_link : (enterCycling d).link = d.link := by
  rfl
@[simp] theorem enterCycling_view : (enterCycling d).view = d.view := by
  rfl
@[simp] theorem enterCycling_power : (enterCycling d).power = d.power := by
  rfl
@[simp] theorem enterCycling_pattern : (enterCycling d).pattern = d.pattern := by
  rfl
@[simp] theorem enterCycling_lanes : (enterCycling d).lanes = d.lanes := by
  rfl
@[simp] theorem enterCycling_captures : (enterCycling d).captures = d.captures := by
  rfl
@[simp] theorem enterCycling_pins : (enterCycling d).pins = d.pins := by
  rfl
@[simp] theorem enterCycling_engine : (enterCycling d).engine = d.engine := by
  rfl
@[simp] theorem enterCycling_causes : (enterCycling d).causes = d.causes := by
  rfl
@[simp] theorem enterCycling_bench : (enterCycling d).bench = d.bench := by
  rfl
@[simp] theorem enterCycling_now : (enterCycling d).now = d.now := by
  rfl
@[simp] theorem cyclePowerOff_view : (cyclePowerOff d).view = d.view := by
  unfold cyclePowerOff; dsimp only; split_ifs <;> simp
@[simp] theorem cyclePowerOff_pattern : (cyclePowerOff d).pattern = d.pattern := by
  unfold cyclePowerOff; dsimp only; split_ifs <;> simp
@[simp] theorem cyclePowerOff_pins : (cyclePowerOff d).pins = d.pins := by
  unfold cyclePowerOff; dsimp only; split_ifs <;> simp
@[simp] theorem cyclePowerOff_engine : (cyclePowerOff d).engine = d.engine := by
  unfold cyclePowerOff; dsimp only; split_ifs <;> simp
@[simp] theorem cyclePowerOff_bench : (cyclePowerOff d).bench = d.bench := by
  unfold cyclePowerOff; dsimp only; split_ifs <;> simp
@[simp] theorem cyclePowerOff_now : (cyclePowerOff d).now = d.now := by
  unfold cyclePowerOff; dsimp only; split_ifs <;> simp

@[simp] theorem jobCycle_view (giving : Bool) : (jobCycle giving d).1.view = d.view := by
  unfold jobCycle; dsimp only; split_ifs <;> simp
@[simp] theorem jobCycle_pattern (giving : Bool) : (jobCycle giving d).1.pattern = d.pattern := by
  unfold jobCycle; dsimp only; split_ifs <;> simp
@[simp] theorem jobCycle_pins (giving : Bool) : (jobCycle giving d).1.pins = d.pins := by
  unfold jobCycle; dsimp only; split_ifs <;> simp
@[simp] theorem jobCycle_bench (giving : Bool) : (jobCycle giving d).1.bench = d.bench := by
  unfold jobCycle; dsimp only; split_ifs <;> simp
@[simp] theorem jobCycle_now (giving : Bool) : (jobCycle giving d).1.now = d.now := by
  unfold jobCycle; dsimp only; split_ifs <;> simp

/-! ## Codes and runs -/

@[simp] theorem advance_view (n : Nat) (i : LaneId) : (advance n i d).view = d.view := by
  simp [advance]
@[simp] theorem advance_pattern (n : Nat) (i : LaneId) : (advance n i d).pattern = d.pattern := by
  simp [advance]
@[simp] theorem advance_pins (n : Nat) (i : LaneId) : (advance n i d).pins = d.pins := by
  simp [advance]
@[simp] theorem advance_bench (n : Nat) (i : LaneId) : (advance n i d).bench = d.bench := by
  simp [advance]
@[simp] theorem advance_now (n : Nat) (i : LaneId) : (advance n i d).now = d.now := by
  simp [advance]
@[simp] theorem codeFault_view (k : FaultKind) (i : LaneId) : (codeFault k i d).view = d.view := by
  simp [codeFault]
@[simp] theorem codeFault_pattern (k : FaultKind) (i : LaneId) : (codeFault k i d).pattern = d.pattern := by
  simp [codeFault]
@[simp] theorem codeFault_pins (k : FaultKind) (i : LaneId) : (codeFault k i d).pins = d.pins := by
  simp [codeFault]
@[simp] theorem codeFault_bench (k : FaultKind) (i : LaneId) : (codeFault k i d).bench = d.bench := by
  simp [codeFault]
@[simp] theorem codeFault_now (k : FaultKind) (i : LaneId) : (codeFault k i d).now = d.now := by
  simp [codeFault]
@[simp] theorem streamStop_view (i : LaneId) : (streamStop i d).view = d.view := by
  simp [streamStop]
@[simp] theorem streamStop_pattern (i : LaneId) : (streamStop i d).pattern = d.pattern := by
  simp [streamStop]
@[simp] theorem streamStop_pins (i : LaneId) : (streamStop i d).pins = d.pins := by
  simp [streamStop]
@[simp] theorem streamStop_bench (i : LaneId) : (streamStop i d).bench = d.bench := by
  simp [streamStop]
@[simp] theorem streamStop_now (i : LaneId) : (streamStop i d).now = d.now := by
  simp [streamStop]
@[simp] theorem driveVector_view (v : Byte) (i : LaneId) : (driveVector v i d).view = d.view := by
  simp [driveVector]
@[simp] theorem driveVector_pattern (v : Byte) (i : LaneId) : (driveVector v i d).pattern = d.pattern := by
  simp [driveVector]
@[simp] theorem driveVector_pins (v : Byte) (i : LaneId) : (driveVector v i d).pins = d.pins := by
  simp [driveVector]
@[simp] theorem driveVector_bench (v : Byte) (i : LaneId) : (driveVector v i d).bench = d.bench := by
  simp [driveVector]
@[simp] theorem driveVector_now (v : Byte) (i : LaneId) : (driveVector v i d).now = d.now := by
  simp [driveVector]
@[simp] theorem driveHold_view (n : Nat) (i : LaneId) : (driveHold n i d).view = d.view := by
  simp [driveHold]
@[simp] theorem driveHold_pattern (n : Nat) (i : LaneId) : (driveHold n i d).pattern = d.pattern := by
  simp [driveHold]
@[simp] theorem driveHold_pins (n : Nat) (i : LaneId) : (driveHold n i d).pins = d.pins := by
  simp [driveHold]
@[simp] theorem driveHold_bench (n : Nat) (i : LaneId) : (driveHold n i d).bench = d.bench := by
  simp [driveHold]
@[simp] theorem driveHold_now (n : Nat) (i : LaneId) : (driveHold n i d).now = d.now := by
  simp [driveHold]

/-- The block that a code leads to. -/
def CodeResult.device : CodeResult → Device
  | .over d => d
  | .next d _ => d

/-- The blocks that no code touches. -/
abbrev SameSurroundings (d d' : Device) : Prop :=
  d'.view = d.view ∧ d'.pattern = d.pattern ∧ d'.pins = d.pins ∧ d'.bench = d.bench ∧ d'.now = d.now

/-- One code leaves the surroundings alone (R68 to R82). -/
theorem oneCode_frame (giving : Bool) (i : LaneId) : SameSurroundings d (oneCode giving i d).device := by
  unfold oneCode
  dsimp only
  split_ifs
  · simp [CodeResult.device, SameSurroundings]
  · cases decodeCode (patternRead d.pattern (lane d i).position) <;> dsimp only
    case loop n => unfold repeatCode; dsimp only; split_ifs <;> simp [CodeResult.device, SameSurroundings]
    case again => unfold againCode; dsimp only; split <;> (try split_ifs) <;> simp [CodeResult.device, SameSurroundings]
    case mark k => unfold markCode; split_ifs <;> simp [CodeResult.device, SameSurroundings]
    case wrap => unfold wrapCode; dsimp only; split_ifs <;> simp [CodeResult.device, SameSurroundings]
    all_goals simp [CodeResult.device, SameSurroundings]

theorem lastCode_frame (i : LaneId) : SameSurroundings d (lastCode i d) := by
  unfold lastCode
  split <;> simp [SameSurroundings]

/-- A code run leaves the surroundings alone. -/
theorem codeRun_frame (giving : Bool) (i : LaneId) (k : Nat) : SameSurroundings d (codeRun giving i k d).1 := by
  induction k generalizing d with
  | zero =>
    unfold codeRun
    dsimp only
    split_ifs
    · simp [SameSurroundings]
    · exact lastCode_frame d i
  | succ k ih =>
    unfold codeRun
    split_ifs
    · simp [SameSurroundings]
    · have h := oneCode_frame d giving i
      rcases hr : oneCode giving i d with d1 | ⟨d1, rs⟩
      · simpa [hr, CodeResult.device, SameSurroundings] using h
      · simp only [hr, CodeResult.device] at h
        have h2 := ih d1
        dsimp only
        exact ⟨h2.1.trans h.1, h2.2.1.trans h.2.1, h2.2.2.1.trans h.2.2.1, h2.2.2.2.1.trans h.2.2.2.1,
          h2.2.2.2.2.trans h.2.2.2.2⟩

/-! ## Step events -/

@[simp] theorem loadTimer_link (i : LaneId) : (loadTimer i d).link = d.link := by
  rfl
@[simp] theorem loadTimer_view (i : LaneId) : (loadTimer i d).view = d.view := by
  rfl
@[simp] theorem loadTimer_power (i : LaneId) : (loadTimer i d).power = d.power := by
  rfl
@[simp] theorem loadTimer_pattern (i : LaneId) : (loadTimer i d).pattern = d.pattern := by
  rfl
@[simp] theorem loadTimer_captures (i : LaneId) : (loadTimer i d).captures = d.captures := by
  rfl
@[simp] theorem loadTimer_pins (i : LaneId) : (loadTimer i d).pins = d.pins := by
  rfl
@[simp] theorem loadTimer_engine (i : LaneId) : (loadTimer i d).engine = d.engine := by
  rfl
@[simp] theorem loadTimer_causes (i : LaneId) : (loadTimer i d).causes = d.causes := by
  rfl
@[simp] theorem loadTimer_job (i : LaneId) : (loadTimer i d).job = d.job := by
  rfl
@[simp] theorem loadTimer_bench (i : LaneId) : (loadTimer i d).bench = d.bench := by
  rfl
@[simp] theorem loadTimer_now (i : LaneId) : (loadTimer i d).now = d.now := by
  rfl

/-- A step event leaves the surroundings alone (R87). -/
theorem stepCore_frame (giving : Bool) (i : LaneId) : SameSurroundings d (stepCore giving i d).1 := by
  unfold stepCore
  dsimp only
  have h := codeRun_frame (takeSample i d) giving i Config.runLimit
  simp only [SameSurroundings, takeSample_view, takeSample_pattern, takeSample_pins, takeSample_bench,
    takeSample_now] at h
  split_ifs <;> simp [SameSurroundings, h]

@[simp] theorem giveLanesAndTest_view (r : LaneRequest) : (giveLanesAndTest r d).view = d.view := by
  unfold giveLanesAndTest; dsimp only; split_ifs <;> simp
@[simp] theorem giveLanesAndTest_pattern (r : LaneRequest) : (giveLanesAndTest r d).pattern = d.pattern := by
  unfold giveLanesAndTest; dsimp only; split_ifs <;> simp
@[simp] theorem giveLanesAndTest_pins (r : LaneRequest) : (giveLanesAndTest r d).pins = d.pins := by
  unfold giveLanesAndTest; dsimp only; split_ifs <;> simp
@[simp] theorem giveLanesAndTest_bench (r : LaneRequest) : (giveLanesAndTest r d).bench = d.bench := by
  unfold giveLanesAndTest; dsimp only; split_ifs <;> simp
@[simp] theorem giveLanesAndTest_now (r : LaneRequest) : (giveLanesAndTest r d).now = d.now := by
  unfold giveLanesAndTest; dsimp only; split_ifs <;> simp

theorem takeDeferred_frame (r : Deferred) : SameSurroundings d (takeDeferred d r) := by
  cases r <;> simp [takeDeferred, SameSurroundings]

/-- What is taken after a step event leaves the surroundings alone. -/
theorem deliver_frame (rs : List Deferred) : SameSurroundings d (deliver rs d) := by
  unfold deliver
  induction rs generalizing d with
  | nil => simp [SameSurroundings]
  | cons r rs ih =>
    have h := takeDeferred_frame d r
    have h2 := ih (takeDeferred d r)
    exact ⟨h2.1.trans h.1, h2.2.1.trans h.2.1, h2.2.2.1.trans h.2.2.1, h2.2.2.2.1.trans h.2.2.2.1,
      h2.2.2.2.2.trans h.2.2.2.2⟩

/-- A start leaves the surroundings alone (R86). -/
theorem startLane_frame (i : LaneId) : SameSurroundings d (startLane i d).1 := by
  unfold startLane
  dsimp only
  split_ifs
  · simpa [SameSurroundings] using stepCore_frame (setLane i (freshLane d.job.starts[i] .playing (lane d i)) (abandon i d)) true i
  · simp [SameSurroundings]

theorem startLanes_frame (is : List LaneId) : SameSurroundings d (startLanes is d).1 := by
  induction is generalizing d with
  | nil => simp [startLanes, SameSurroundings]
  | cons i is ih =>
    have h := startLane_frame d i
    have h2 := ih (startLane i d).1
    simp only [startLanes]
    exact ⟨h2.1.trans h.1, h2.2.1.trans h.2.1, h2.2.2.1.trans h.2.2.1, h2.2.2.2.1.trans h.2.2.2.1,
      h2.2.2.2.2.trans h.2.2.2.2⟩

/-! ## The starts find power ON (R86, R163) -/

@[simp] theorem inForce_powerState (n : NamedSettings) : (inForce n d).power.state = d.power.state := by simp

theorem jobCycle_giving_powerState : (jobCycle true d).1.power.state = d.power.state := by
  unfold jobCycle countCycle stagedInForce enterClosing stagedInForce
  dsimp only
  split_ifs <;> first | (simp; done) | exact absurd rfl ‹¬true = true›

theorem oneCode_giving_powerState (i : LaneId) :
    (oneCode true i d).device.power.state = d.power.state := by
  unfold oneCode
  dsimp only
  split_ifs
  · simp [CodeResult.device, codeFault]
  · cases decodeCode (patternRead d.pattern (lane d i).position) <;> dsimp only
    case loop n => unfold repeatCode; dsimp only; split_ifs <;> simp [CodeResult.device, codeFault]
    case again => unfold againCode; dsimp only; split <;> (try split_ifs) <;> simp [CodeResult.device, codeFault]
    case mark k =>
      unfold markCode
      split_ifs <;> simp [CodeResult.device, jobCycle_giving_powerState, advance]
    case wrap => unfold wrapCode; dsimp only; split_ifs <;> simp [CodeResult.device, streamStop]
    all_goals simp [CodeResult.device, advance, streamStop, driveVector, driveHold, codeFault]

theorem codeRun_giving_powerState (i : LaneId) (k : Nat) :
    (codeRun true i k d).1.power.state = d.power.state := by
  induction k generalizing d with
  | zero =>
    unfold codeRun lastCode
    dsimp only
    split_ifs
    · simp [codeFault]
    · split <;> simp [driveVector, driveHold, codeFault]
  | succ k ih =>
    unfold codeRun
    split_ifs
    · simp [codeFault]
    · have h := oneCode_giving_powerState d i
      rcases hr : oneCode true i d with d1 | ⟨d1, rs⟩
      · simpa [hr, CodeResult.device] using h
      · simp only [hr, CodeResult.device] at h
        exact (ih d1).trans h

/-- A start's step event leaves the power state, whatever its run hands to the job. -/
theorem stepCore_giving_powerState (i : LaneId) :
    (stepCore true i d).1.power.state = d.power.state := by
  have h := codeRun_giving_powerState (takeSample i d) i Config.runLimit
  simp only [takeSample_power] at h
  unfold stepCore
  dsimp only
  split_ifs <;> simp_all

/-- Each start finds the power state that the first one found (R86). -/
theorem startLanes_powerState (is : List LaneId) :
    (startLanes is d).1.power.state = d.power.state := by
  induction is generalizing d with
  | nil => rfl
  | cons i is ih =>
    simp only [startLanes]
    rw [ih]
    unfold startLane
    dsimp only
    split_ifs
    · rw [stepCore_giving_powerState]; simp [abandon]
    · simp [abandon]

/-! ## Power ON reached -/

/-- Power ON reached leaves the surroundings alone (R163). -/
theorem jobPowerOn_frame : SameSurroundings d (jobPowerOn d) := by
  unfold jobPowerOn
  dsimp only
  split_ifs
  · have h := startLanes_frame (setJob { d.job with state := .running, phase := none } d)
      (allLanes.filter (enabled (setJob { d.job with state := .running, phase := none } d)))
    have h2 := deliver_frame (startLanes (allLanes.filter
      (enabled (setJob { d.job with state := .running, phase := none } d)))
        (setJob { d.job with state := .running, phase := none } d)).1
      (startLanes (allLanes.filter (enabled (setJob { d.job with state := .running, phase := none } d)))
        (setJob { d.job with state := .running, phase := none } d)).2
    simp only [SameSurroundings, setJob_view, setJob_pattern, setJob_pins, setJob_bench, setJob_now] at h
    exact ⟨h2.1.trans h.1, h2.2.1.trans h.2.1, h2.2.2.1.trans h.2.2.1, h2.2.2.2.1.trans h.2.2.2.1,
      h2.2.2.2.2.trans h.2.2.2.2⟩
  · simp [SameSurroundings]

end Sys2Proof.Machine
end

