-- ==== Sys2Proof/Laws/Line.lean ====
section
/-! SUPPORT. The message line's levels (R193): how many there are, and what read-back finds in them (R17). -/

namespace Sys2Proof.Machine

@[simp] theorem lineLevels_nil : lineLevels [] = [] := rfl

theorem lineLevels_cons (b : Byte) (bs : List Byte) : lineLevels (b :: bs) = byteLevels b ++ lineLevels bs := rfl

@[simp] theorem length_byteLevels (b : Byte) : (byteLevels b).length = 10 := rfl

theorem lineLevels_append (xs ys : List Byte) : lineLevels (xs ++ ys) = lineLevels xs ++ lineLevels ys :=
  List.flatMap_append

@[simp] theorem length_lineLevels (bs : List Byte) : (lineLevels bs).length = 10 * bs.length := by
  induction bs with
  | nil => rfl
  | cons b bs ih => simp [lineLevels_cons, ih]; omega

/-- A bit is found wrong exactly where it differs from the bit driven and all before it agree (R17). -/
theorem firstDifference_eq_some_iff (driven read : List Bool) (k : Nat) :
    firstDifference driven read = some k ↔
      (∃ b, driven[k]? = some b ∧ read[k]? = some (!b)) ∧ ∀ j < k, read[j]? = driven[j]? := by
  induction driven generalizing read k with
  | nil => simp [firstDifference]
  | cons d ds ih =>
    cases read with
    | nil => simp [firstDifference]
    | cons r rs =>
      rcases k with _ | k
      · rcases d <;> rcases r <;> simp [firstDifference]
      · by_cases h : d = r
        · subst h
          simp only [firstDifference, if_true, Option.map_eq_some_iff, Nat.add_right_cancel_iff, exists_eq_right, ih,
            List.getElem?_cons_succ]
          refine and_congr_right fun _ => ⟨fun a j hj => ?_, fun a j hj => a (j + 1) (by omega)⟩
          cases j with
          | zero => rfl
          | succ j => exact a j (by omega)
        · simp only [firstDifference, h, if_false, List.getElem?_cons_succ]
          refine ⟨fun e => by simp at e, fun e => absurd (e.2 0 (by omega)) ?_⟩
          simpa using Ne.symm h

/-- No bit is found wrong exactly where one list of levels begins with the other (R17). -/
theorem firstDifference_eq_none_iff (driven read : List Bool) :
    firstDifference driven read = none ↔ read <+: driven ∨ driven <+: read := by
  induction driven generalizing read with
  | nil => simp [firstDifference]
  | cons d ds ih =>
    cases read with
    | nil => simp [firstDifference]
    | cons r rs =>
      by_cases h : d = r
      · simp [firstDifference, h, ih, List.cons_prefix_cons]
      · simp [firstDifference, h, List.cons_prefix_cons, Ne.symm h]

/-- Levels that are as driven up to bit k, where the level is the other one, are found wrong at bit k (R17). -/
theorem firstDifference_modify (driven : List Bool) (k : Nat) (h : k < driven.length) :
    firstDifference driven ((driven.modify k not).take (k + 1)) = some k := by
  refine (firstDifference_eq_some_iff _ _ _).2 ⟨⟨driven[k], by simp [h]⟩, fun j hj => ?_⟩
  simp [show j < k + 1 by omega, show k ≠ j by omega]

end Sys2Proof.Machine
end

