-- ==== Sys2Proof/Laws/Pattern.lean ====
section
/-! SUPPORT. Pattern memory (R66, R67): what a read gives after a write, and that writes keep the canonical form. -/

namespace Sys2Proof.Machine

/-- Addresses below the first listed one read 0x0000. -/
theorem patternRead_below {low a : Nat} {m : List (Nat × Word)} (h : patternWfFrom low m = true) (ha : a < low) :
    patternRead m a = 0 := by
  induction m generalizing low with
  | nil => rfl
  | cons e rest ih =>
    obtain ⟨b, v⟩ := e
    simp only [patternWfFrom, Bool.and_eq_true, decide_eq_true_eq] at h
    have hb : b ≠ a := by omega
    simp only [patternRead, if_neg hb]
    exact ih h.2 (by omega)

/-- A canonical memory is canonical above any lower bound. -/
theorem patternWfFrom_mono {low low' : Nat} {m : List (Nat × Word)} (hl : low' ≤ low)
    (h : patternWfFrom low m = true) : patternWfFrom low' m = true := by
  cases m with
  | nil => rfl
  | cons e rest =>
    obtain ⟨b, v⟩ := e
    simp only [patternWfFrom, Bool.and_eq_true, decide_eq_true_eq] at h ⊢
    exact ⟨⟨by omega, h.1.2⟩, h.2⟩

/-- A read after a write of one word: the word at its address, and every other address as before. -/
theorem patternRead_patternWrite {low a : Nat} (w : Word) {m : List (Nat × Word)} (h : patternWfFrom low m = true)
    (b : Nat) : patternRead (patternWrite a w m) b = if b = a then w else patternRead m b := by
  induction m generalizing low with
  | nil =>
    by_cases hw : w = 0#16
    · simp [patternWrite, patternRead, hw]
    · by_cases hb : b = a
      · simp [patternWrite, patternRead, hw, hb]
      · simp [patternWrite, patternRead, hw, hb, Ne.symm hb]
  | cons e rest ih =>
    obtain ⟨c, v⟩ := e
    simp only [patternWfFrom, Bool.and_eq_true, decide_eq_true_eq] at h
    have hbelow : ∀ x, x < c + 1 → patternRead rest x = 0 := fun x hx => patternRead_below h.2 hx
    rcases Nat.lt_trichotomy a c with hlt | rfl | hgt
    · have hca : c ≠ a := by omega
      by_cases hw : w = 0#16 <;> by_cases hb : b = a
      · subst hb
        simp [patternWrite, patternRead, hlt, hw, hca, hbelow b (by omega)]
      · simp [patternWrite, hlt, hw, hb]
      · subst hb
        simp [patternWrite, patternRead, hlt, hw]
      · simp [patternWrite, patternRead, hlt, hw, hb, Ne.symm hb]
    · by_cases hw : w = 0#16 <;> by_cases hb : b = a
      · subst hb
        simp [patternWrite, hw, hbelow b (by omega)]
      · simp [patternWrite, patternRead, hw, hb, Ne.symm hb]
      · simp [patternWrite, patternRead, hw, hb]
      · simp [patternWrite, patternRead, hw, hb, Ne.symm hb]
    · have h1 : ¬a < c := by omega
      have h2 : a ≠ c := by omega
      simp only [patternWrite, if_neg h1, if_neg h2, patternRead, ih h.2]
      by_cases hb : b = a
      · subst hb
        simp [Ne.symm h2]
      · simp [hb]

/-- A write within memory keeps the canonical form. -/
theorem patternWfFrom_patternWrite {low a : Nat} (w : Word) {m : List (Nat × Word)}
    (h : patternWfFrom low m = true) (hl : low ≤ a) (ha : a < Config.patternWords) :
    patternWfFrom low (patternWrite a w m) = true := by
  induction m generalizing low with
  | nil =>
    unfold patternWrite
    split_ifs with hw
    · rfl
    · simpa [patternWfFrom, hl, ha] using hw
  | cons e rest ih =>
    obtain ⟨c, v⟩ := e
    have h' := h
    simp only [patternWfFrom, Bool.and_eq_true, decide_eq_true_eq] at h'
    unfold patternWrite
    split_ifs with hlt hw heq hw
    · exact h
    · simp only [patternWfFrom, Bool.and_eq_true, decide_eq_true_eq]
      exact ⟨⟨hl, ha, hw⟩, ⟨by omega, h'.1.2⟩, h'.2⟩
    · exact patternWfFrom_mono (by omega) h'.2
    · simp only [patternWfFrom, Bool.and_eq_true, decide_eq_true_eq]
      exact ⟨⟨hl, ha, hw⟩, by rw [heq]; exact h'.2⟩
    · simp only [patternWfFrom, Bool.and_eq_true, decide_eq_true_eq]
      exact ⟨h'.1, ih h'.2 (by omega)⟩

/-- A LOAD's writes within memory keep the canonical form (R67). -/
theorem patternWf_patternWriteAll {a : Nat} {ws : List Word} {m : List (Nat × Word)} (h : patternWf m = true)
    (ha : a + ws.length ≤ Config.patternWords) : patternWf (patternWriteAll a ws m) = true := by
  induction ws generalizing a m with
  | nil => exact h
  | cons w ws ih =>
    rw [List.length_cons] at ha
    exact ih (patternWfFrom_patternWrite w h (by omega) (by omega)) (by omega)

/-- A LOAD writes its words to consecutive addresses, and leaves every other word (R67). -/
theorem patternRead_patternWriteAll {a : Nat} {ws : List Word} {m : List (Nat × Word)} (h : patternWf m = true)
    (ha : a + ws.length ≤ Config.patternWords) (b : Nat) :
    patternRead (patternWriteAll a ws m) b =
      if a ≤ b ∧ b < a + ws.length then ws.getD (b - a) 0 else patternRead m b := by
  induction ws generalizing a m with
  | nil =>
    have : ¬(a ≤ b ∧ b < a) := by omega
    simp [patternWriteAll, this]
  | cons w ws ih =>
    rw [List.length_cons] at ha
    have hw := patternWfFrom_patternWrite w h (Nat.zero_le a) (by omega : a < Config.patternWords)
    simp only [patternWriteAll, List.length_cons]
    rw [ih hw (by omega), patternRead_patternWrite w h b]
    by_cases hb : b = a
    · subst hb
      simp
    · by_cases hin : a + 1 ≤ b ∧ b < a + 1 + ws.length
      · have h1 : a ≤ b ∧ b < a + (ws.length + 1) := by omega
        have h2 : b - a = (b - (a + 1)) + 1 := by omega
        rw [if_pos hin, if_pos h1, h2]
        simp
      · have h1 : ¬(a ≤ b ∧ b < a + (ws.length + 1)) := by omega
        rw [if_neg hin, if_neg h1, if_neg hb]

/-- Reset memory is canonical, and every word of it reads 0x0000 (R66). -/
theorem patternWf_reset : patternWf State.reset.pattern = true := rfl

theorem patternRead_reset (a : Nat) : patternRead State.reset.pattern a = 0 := rfl

end Sys2Proof.Machine
end

