-- ==== Sys2Proof/WellFormed.lean ====
section
/-! DEFINITION. Which commands the world can present. A command that is not well formed still has a meaning; the
predicate says which terms stand for something the manual's link can carry. -/

namespace Sys2Proof

/-- The argument bytes of a command item fit the payload beside the item's five other bytes (R194, R196). -/
def argsFit (args : List Byte) : Bool := decide (args.length + 5 ≤ Config.maxPayload)

/-- A kind byte that names none of the commands of R198. -/
def unknownKind (kind : Byte) : Bool := decide (kind.toNat = 0 ∨ 24 < kind.toNat)

/-- The awaited bytes of a message: 1 to 80 payload bytes and two checksum bytes (R11). -/
def awaitedFit (bytes : List Byte) : Bool :=
  decide (3 ≤ bytes.length ∧ bytes.length ≤ Config.maxPayload + 2)

/-- The places between the command items of one message: an item is of at least five bytes, so a payload of 80 bytes
holds at most sixteen (R180, R194, R196). -/
def betweenFits (between : List (List BlockEvent)) : Bool := decide (between.length ≤ 15)

/-- A command that the world can present. -/
def Instr.wellFormed : Instr → Bool
  | .coldStart _ _ => true
  | .cadenceTimerExpiry _ _ => true
  | .candidateMark _ _ => true
  | .pulseLineStuckLow => true
  | .cleanMarkRelease => true
  | .headerReceived _ _ _ _ => true
  | .messageComplete bytes view => awaitedFit bytes && betweenFits view.between
  | .lineIdleTimeout => true
  | .framingError => true
  | .slotEnd _ => true
  | .ownSlotTransmit => true
  | .collision => true
  | .transmissionClean => true
  | .converterSample _ _ => true
  | .stepTimerExpiry _ _ => true
  | .dwellEnd => true
  | .unknownCommand kind _ args => unknownKind kind && argsFit args
  | .load _ args => argsFit args
  | .jobLanes _ args => argsFit args
  | .jobRails _ args => argsFit args
  | .jobLimits _ args => argsFit args
  | .jobCauses _ args => argsFit args
  | .start _ args _ => argsFit args
  | .pause _ args => argsFit args
  | .resume _ args _ => argsFit args
  | .abort _ args => argsFit args
  | .power _ args => argsFit args
  | .clearTable _ args => argsFit args
  | .pin _ args => argsFit args
  | .unpin _ args => argsFit args
  | .queryHeader _ args => argsFit args
  | .queryTable _ args => argsFit args
  | .querySnapshot _ args => argsFit args
  | .queryCauses _ args => argsFit args
  | .clearCauses _ args => argsFit args
  | .queryLanes _ args => argsFit args
  | .queryJob _ args => argsFit args
  | .queryPeers _ args => argsFit args
  | .queryMonitor _ args => argsFit args
  | .replyLimit _ args => argsFit args
  | .restart _ args => argsFit args

end Sys2Proof
end

