-- ==== Sys2Proof/Laws/PerInstr.lean ====
section
/-! SUPPORT. Statements about every command, one lemma for each constructor of `Instr`. -/

namespace Sys2Proof.Laws.Sized

/-- The bytes a command carries: the awaited bytes of a message, or the arguments of a command item. -/
def carried : Instr → List Byte
  | .coldStart _ _ => []
  | .cadenceTimerExpiry _ _ => []
  | .candidateMark _ _ => []
  | .pulseLineStuckLow => []
  | .cleanMarkRelease => []
  | .headerReceived _ _ _ _ => []
  | .messageComplete x _ => x
  | .lineIdleTimeout => []
  | .framingError => []
  | .slotEnd _ => []
  | .ownSlotTransmit => []
  | .collision => []
  | .transmissionClean => []
  | .converterSample _ _ => []
  | .stepTimerExpiry _ _ => []
  | .dwellEnd => []
  | .unknownCommand _ _ x => x
  | .load _ x => x
  | .jobLanes _ x => x
  | .jobRails _ x => x
  | .jobLimits _ x => x
  | .jobCauses _ x => x
  | .start _ x _ => x
  | .pause _ x => x
  | .resume _ x _ => x
  | .abort _ x => x
  | .power _ x => x
  | .clearTable _ x => x
  | .pin _ x => x
  | .unpin _ x => x
  | .queryHeader _ x => x
  | .queryTable _ x => x
  | .querySnapshot _ x => x
  | .queryCauses _ x => x
  | .clearCauses _ x => x
  | .queryLanes _ x => x
  | .queryJob _ x => x
  | .queryPeers _ x => x
  | .queryMonitor _ x => x
  | .replyLimit _ x => x
  | .restart _ x => x

/-- A command that the world can present carries at most the 82 bytes of the longest payload and its checksum (R11,
R194). -/
def Statement (i : Instr) : Prop := i.wellFormed = true → (carried i).length ≤ 82

theorem of_argsFit {args : List Byte} (h : argsFit args = true) : args.length ≤ 82 := by
  have h' : args.length + 5 ≤ 80 := of_decide_eq_true h
  omega

theorem of_awaitedFit {bytes : List Byte} (h : awaitedFit bytes = true) : bytes.length ≤ 82 :=
  (of_decide_eq_true (p := 3 ≤ bytes.length ∧ bytes.length ≤ 82) h).2

theorem coldStart (bay : BitVec 4) (budget : BitVec 2) : Statement (.coldStart bay budget) := fun _ => Nat.zero_le _
theorem cadenceTimerExpiry (lineHigh : Nat) (view : MarkView) : Statement (.cadenceTimerExpiry lineHigh view) := fun _ => Nat.zero_le _
theorem candidateMark (sinceMark : Nat) (view : MarkView) : Statement (.candidateMark sinceMark view) := fun _ => Nat.zero_le _
theorem pulseLineStuckLow : Statement .pulseLineStuckLow := fun _ => Nat.zero_le _
theorem cleanMarkRelease : Statement .cleanMarkRelease := fun _ => Nat.zero_le _
theorem headerReceived (b0 b1 b2 b3 : Byte) : Statement (.headerReceived b0 b1 b2 b3) := fun _ => Nat.zero_le _
theorem messageComplete (bytes : List Byte) (view : MessageView) : Statement (.messageComplete bytes view) := fun h => of_awaitedFit (Bool.and_eq_true_iff.mp h).1
theorem lineIdleTimeout : Statement .lineIdleTimeout := fun _ => Nat.zero_le _
theorem framingError : Statement .framingError := fun _ => Nat.zero_le _
theorem slotEnd (lineActive : Bool) : Statement (.slotEnd lineActive) := fun _ => Nat.zero_le _
theorem ownSlotTransmit : Statement .ownSlotTransmit := fun _ => Nat.zero_le _
theorem collision : Statement .collision := fun _ => Nat.zero_le _
theorem transmissionClean : Statement .transmissionClean := fun _ => Nat.zero_le _
theorem converterSample (channel : Channel) (reading : Nat) : Statement (.converterSample channel reading) := fun _ => Nat.zero_le _
theorem stepTimerExpiry (lane : LaneId) (pins : Byte) : Statement (.stepTimerExpiry lane pins) := fun _ => Nat.zero_le _
theorem dwellEnd : Statement .dwellEnd := fun _ => Nat.zero_le _
theorem unknownCommand (kind seq : Byte) (args : List Byte) : Statement (.unknownCommand kind seq args) := fun h => of_argsFit (Bool.and_eq_true_iff.mp h).2
theorem load (seq : Byte) (args : List Byte) : Statement (.load seq args) := fun h => of_argsFit h
theorem jobLanes (seq : Byte) (args : List Byte) : Statement (.jobLanes seq args) := fun h => of_argsFit h
theorem jobRails (seq : Byte) (args : List Byte) : Statement (.jobRails seq args) := fun h => of_argsFit h
theorem jobLimits (seq : Byte) (args : List Byte) : Statement (.jobLimits seq args) := fun h => of_argsFit h
theorem jobCauses (seq : Byte) (args : List Byte) : Statement (.jobCauses seq args) := fun h => of_argsFit h
theorem start (seq : Byte) (args : List Byte) (pins : CapturePins) : Statement (.start seq args pins) := fun h => of_argsFit h
theorem pause (seq : Byte) (args : List Byte) : Statement (.pause seq args) := fun h => of_argsFit h
theorem resume (seq : Byte) (args : List Byte) (pins : CapturePins) : Statement (.resume seq args pins) := fun h => of_argsFit h
theorem abort (seq : Byte) (args : List Byte) : Statement (.abort seq args) := fun h => of_argsFit h
theorem power (seq : Byte) (args : List Byte) : Statement (.power seq args) := fun h => of_argsFit h
theorem clearTable (seq : Byte) (args : List Byte) : Statement (.clearTable seq args) := fun h => of_argsFit h
theorem pin (seq : Byte) (args : List Byte) : Statement (.pin seq args) := fun h => of_argsFit h
theorem unpin (seq : Byte) (args : List Byte) : Statement (.unpin seq args) := fun h => of_argsFit h
theorem queryHeader (seq : Byte) (args : List Byte) : Statement (.queryHeader seq args) := fun h => of_argsFit h
theorem queryTable (seq : Byte) (args : List Byte) : Statement (.queryTable seq args) := fun h => of_argsFit h
theorem querySnapshot (seq : Byte) (args : List Byte) : Statement (.querySnapshot seq args) := fun h => of_argsFit h
theorem queryCauses (seq : Byte) (args : List Byte) : Statement (.queryCauses seq args) := fun h => of_argsFit h
theorem clearCauses (seq : Byte) (args : List Byte) : Statement (.clearCauses seq args) := fun h => of_argsFit h
theorem queryLanes (seq : Byte) (args : List Byte) : Statement (.queryLanes seq args) := fun h => of_argsFit h
theorem queryJob (seq : Byte) (args : List Byte) : Statement (.queryJob seq args) := fun h => of_argsFit h
theorem queryPeers (seq : Byte) (args : List Byte) : Statement (.queryPeers seq args) := fun h => of_argsFit h
theorem queryMonitor (seq : Byte) (args : List Byte) : Statement (.queryMonitor seq args) := fun h => of_argsFit h
theorem replyLimit (seq : Byte) (args : List Byte) : Statement (.replyLimit seq args) := fun h => of_argsFit h
theorem restart (seq : Byte) (args : List Byte) : Statement (.restart seq args) := fun h => of_argsFit h

end Sys2Proof.Laws.Sized
end

