-- ==== Sys2Proof/Tests/Slice0.lean ====
section
/-! SUPPORT. The model's own tests: each check of `WellFormed` refuses an ill-formed command; the manual's worked
examples come out as the manual says; and for every statement with hypotheses, a state and operands that meet them
all. -/

-- One theorem at a time: the checks of the whole package as one text wait on each other otherwise.
set_option Elab.async false

namespace Sys2Proof.Tests

open Sys2Proof.Machine Sys2Proof.Safety

/-! ## Small states -/

/-- All capture pins low. -/
def low : CapturePins := Vector.replicate 4 0

/-- What a quiet world shows at a mark: no activity, 25.0 °C. -/
def quietView : MarkView := ⟨false, .halfDegrees 50, low, false, false⟩

/-- What a quiet world shows as a message is taken: all pins low, and nothing between its items. -/
def quietMessage : MessageView := ⟨low, []⟩

/-- The machine after reset, receiving in a slot. -/
def inSlot (k : StationId) (r : Reception) : State :=
  { State.reset with link := { State.reset.link with slot := some k, reception := r } }

/-- A machine with the board in a power state. -/
def powered (p : PowerState) (s : State) : State :=
  { s with power := { s.power with state := p, switchClosed := p.closed } }

/-- A machine with a set job of lane 0 and target 2, in a job state. -/
def inJob (j : JobState) (s : State) : State :=
  { s with job := { s.job with state := j, jobSet := true, mask := some 1, target := some 2 } }

/-- A machine with lane 0 replaced. -/
def withLane (l : Lane) (s : State) : State := { s with lanes := s.lanes.set 0 l }

/-- A machine with capture lane 0 replaced. -/
def withCapture (c : Capture) (s : State) : State := { s with captures := s.captures.set 0 c }

/-- A machine with pattern memory as some words from address 0 on. -/
def withPattern (ws : List Word) (s : State) : State := { s with pattern := patternWriteAll 0 ws [] }

/-- A machine whose reply queue is full. -/
def fullQueue : State :=
  { State.reset with bench := { State.reset.bench with replies := List.replicate 8 ⟨0x0E, 1, .accepted, false, []⟩ } }

/-- A lane in PLAYING whose timer is due at 1,000, at address 0. -/
def playing : Lane := { Lane.cold with state := .playing, timer := .running 1000 }

/-- A lane in HELD with 40 left. -/
def heldLane0 : Lane := { Lane.cold with state := .held, resume := some .finishing, timer := .frozen 40 }

/-- A rail whose run stands at a number of outside samples since frame 0. -/
def runOf (n : Nat) : Rail := { sample := 0, fullScale := false, run := n, first := some 0, excursion := true }

/-- A machine in ON with rail 1's run and the current run at a number, and limits of 1,000 to 5,000 mV and 3,000 mA. -/
def supervised (n : Nat) : State :=
  let s := powered .on State.reset
  { s with power := { s.power with
      rails := s.power.rails.set 1 (runOf n), currentRun := n,
      settings := { s.power.settings with windows := s.power.settings.windows.set 1 ⟨1000, 5000⟩, run := 3000,
                                          inrush := 3000 } } }

/-- A record of a locus. -/
def recordOf (serial : Nat) (l : Locus) : SuspectRecord :=
  { serial := serial, locus := l, firstStamp := 0, lastStamp := 0, lastCount := 0, score := 0, hits := 1,
    opportunities := 1, cold := 1, warm := 0, hot := 0, latch := false, pinned := false, snapshot := none }

/-- A machine with some records, the next serial being 10. -/
def withTable (t : List SuspectRecord) : State :=
  { State.reset with engine := { State.reset.engine with table := t, nextSerial := 10 } }

/-- What a step leaves, for a test of one field. -/
def after (c : Instr) (s : State) : State := afterCommand s c

/-! ## Commands that are not well formed -/

theorem test_wellFormed_refuses_long_arguments :
    Instr.wellFormed (.load 1 (List.replicate 76 0)) = false := by decide +kernel

theorem test_wellFormed_refuses_known_kind_as_unknown :
    Instr.wellFormed (.unknownCommand 0x18 1 []) = false ∧ Instr.wellFormed (.unknownCommand 0x01 1 []) = false := by
  decide +kernel

theorem test_wellFormed_refuses_message_of_no_payload :
    Instr.wellFormed (.messageComplete [0, 0] quietMessage) = false ∧
      Instr.wellFormed (.messageComplete (List.replicate 83 0) quietMessage) = false := by decide +kernel

/-- A payload of 80 bytes holds at most sixteen command items, with fifteen places between them. -/
theorem test_wellFormed_refuses_sixteen_places :
    Instr.wellFormed (.messageComplete (List.replicate 82 0) ⟨low, List.replicate 16 []⟩) = false ∧
      Instr.wellFormed (.messageComplete (List.replicate 82 0) ⟨low, List.replicate 15 []⟩) = true := by
  decide +kernel

theorem test_wellFormed_takes_the_bounds :
    Instr.wellFormed (.load 1 (List.replicate 75 0)) = true ∧
      Instr.wellFormed (.unknownCommand 0x19 1 []) = true ∧
      Instr.wellFormed (.messageComplete (List.replicate 82 0) quietMessage) = true := by decide +kernel

theorem test_no_table_word_spells_a_command : decodeTableWord 16 0x1234 = none := by decide +kernel

/-! ## The manual's worked examples -/

/-- R13, and the examples of R110: the nine bytes 0x31 to 0x39, one 0x00, and one 0x31. -/
theorem test_crc :
    crc16 [0x31, 0x32, 0x33, 0x34, 0x35, 0x36, 0x37, 0x38, 0x39] = 0x29B1 ∧ crc16 [0x00] = 0xE1F0 ∧
      crc16 [0x31] = 0xC782 := by decide +kernel

/-- The example of R195: bay 6, payload length 8, one item. -/
theorem test_check_byte : headerBytes 6 8 1 = [0x61, 0x08, 0x01, 0x25] := by decide +kernel

/-- The corrected header of R10's worked sequence: 0x51 arrives as 0x55; with byte 1 bit 0 flipped as well it is
discarded. -/
theorem test_header_corrected :
    decodeHeader (headerData 0x55 8 1) (checkByte (headerData 0x51 8 1)) = .corrected (headerData 0x51 8 1) ∧
      decodeHeader (headerData 0x55 9 1) (checkByte (headerData 0x51 8 1)) = .uncorrectable := by decide +kernel

/-- The heat step of R62: WARM, then 149, 150, 147, 145, 104 and 109. -/
theorem test_band_in_a_heat_step :
    let s := Power.cold.settings
    nextBand s .warm 149 = .warm ∧ nextBand s .warm 150 = .hot ∧ nextBand s .hot 147 = .hot ∧
      nextBand s .hot 145 = .warm ∧ nextBand s .warm 104 = .cold ∧ nextBand s .cold 109 = .cold := by decide +kernel

/-- R67's table: 12 words at 32,756 fit, at 32,760 they do not; 30 words at 4,096 find lane 0 HELD. -/
theorem test_where_a_load_fits :
    let words := fun n : Nat => List.replicate (2 * n) (0 : Byte)
    (after (.load 1 ([0x7F, 0xF4, 12] ++ words 12)) State.reset).bench.replies =
        [⟨0x01, 1, .accepted, false, []⟩] ∧
      (after (.load 1 ([0x7F, 0xF8, 12] ++ words 12)) State.reset).bench.replies = [⟨0x01, 1, .range, false, []⟩] ∧
      (after (.load 1 ([0x10, 0x00, 30] ++ words 30)) (withLane heldLane0 State.reset)).bench.replies =
        [⟨0x01, 1, .busy, false, []⟩] := by decide +kernel

/-- The strobe of R102's example: sample 0x5A, expected 0x58, mask 0xF3 fail at pin 1 alone. -/
theorem test_strobe_fails_at_pin_one :
    let s := withCapture { Capture.cold with sample := 0x5A } (powered .on State.reset)
    ((strobe 0 0x12 0x58 0xF3 s.toDevice).engine.queue.map fun e => e.locus) = [.strobe 0 1 0x12] := by
  decide +kernel

/-- The worked case of a strobe pin in a hot frame: c of 2, repeat 3, score 2,040, hits 9, opportunities 11. -/
theorem test_settle_latches :
    let l : Locus := .strobe 1 1 0x12
    let r := { recordOf 5 l with score := 2040, hits := 9, opportunities := 11, hot := 6 }
    let e : Entry := ⟨l, 500, 3, .hot, none⟩
    let r' := scoreEntry e 2 r
    (r'.score, r'.hits, r'.opportunities, r'.hot, r'.latch) = (2056, 12, 14, 9, true) ∧ solid r' = false ∧
      (decayRecord r').score = 2024 := by decide +kernel

/-- The worked case of halving a counter. -/
theorem test_halving :
    let r := { recordOf 5 (.glitch 0) with opportunities := 65535, hits := 40000, cold := 0, warm := 255, hot := 255 }
    let r' := scoreEntry ⟨.glitch 0, 1, 1, .hot, none⟩ 0 r
    (r'.opportunities, r'.hits, r'.cold, r'.warm, r'.hot) = (32768, 20001, 0, 127, 128) := by decide +kernel

/-- The worked case of eviction: of scores 31 the lower serial, 22; pinned and latched records stay. -/
theorem test_eviction_choice :
    let at_ := fun (serial score : Nat) => { recordOf serial (.glitch 0) with score := score }
    (evictionChoice [{ at_ 5 10 with pinned := true }, { at_ 14 10 with latch := true }, at_ 23 31, at_ 22 31,
      at_ 40 255]).map (fun r => r.serial) = some 22 := by decide +kernel

/-- The worked example of a coincidence count: bay 2 disturbed in frame 500, bay 9 rising in 501. -/
theorem test_coincidence :
    bayCount (coincidentBays [⟨0, 0⟩, ⟨0, 0⟩, ⟨0, 0x200⟩, ⟨0x4, 0⟩, ⟨0, 0⟩] 503 500) = 2 := by decide +kernel

/-- The grant pass at the mark beginning frame 701, under budget 2: a phantom for the blind bay 3, and no room for
bays 6 and 9. -/
theorem test_grant_pass_701 :
    let v := { PeerView.cold 1 with
      roster := [⟨11, 685, 700, false⟩, ⟨4, 692, 704, false⟩],
      peers := (PeerView.cold 1).peers.set 3 ⟨true, 1, .asking, none, 8, some 2⟩,
      notes := (((PeerView.cold 1).notes.set 3 .blind).set 6 (.ask 16)).set 9 (.ask 12) }
    (viewMark (some 6) 701 v).roster = [⟨4, 692, 704, false⟩, ⟨3, 701, 709, true⟩] := by decide +kernel

/-- The worked sequence of filling a message: payload 78, 8 items, 84 bytes, and the notices of causes 1, 2 and 9. -/
theorem test_filling_one_message :
    let u := CauseUnit.cold
    let flagged := fun i : Fin 15 => { u.records[i] with flag := true, count := 1 }
    let d := { (powered .asking State.reset).toDevice with
      link := { State.reset.link with frame := 1200, slot := some 6, errors := 0x81,
                                      disturbs := [⟨1199, true, false⟩, ⟨1200, false, true⟩], notices := 0x206 },
      view := { State.reset.view with listening := 0 },
      causes := { u with records := ((u.records.set 0 (flagged 0)).set 1 (flagged 1)).set 8 (flagged 8) },
      bench := ⟨[⟨1, 1, .accepted, false, List.replicate 34 0⟩, ⟨1, 2, .accepted, false, List.replicate 18 0⟩], 64⟩ }
    let f := assemble d
    f.bytes.length = 84 ∧ nat8 f.bytes 1 = 78 ∧ nat8 f.bytes 2 = 8 ∧ f.replies = 1 ∧ f.notices = 0x206 ∧
      (nat8 f.bytes 64, nat8 f.bytes 65, nat8 f.bytes 70, nat8 f.bytes 71) = (4, 2, 4, 9) := by decide +kernel

/-- The readouts of a machine after cold start (R201): 22, 46, 104, 119, 44 + 7 × 14, and 51 bytes. -/
theorem test_readout_lengths :
    let d := State.reset.toDevice
    (headerReadout d.engine).length = 22 ∧ (causesReadout d).length = 46 ∧ (lanesReadout d).length = 104 ∧
      (jobReadout d).length = 119 ∧ (peersReadout d).length = 142 ∧ (monitorReadout d.power).length = 51 ∧
      (recordReadout 0 (recordOf 1 (.glitch 0))).length = 28 := by decide +kernel

/-- R112: a single strobe that fails on three pins requests a BURST by itself. -/
theorem test_three_failing_pins_request_a_burst :
    let s := powered .on State.reset
    (strobe 0 0x12 0x07 0x07 s.toDevice).link.disturbs = [⟨0, false, true⟩] ∧
      (strobe 0 0x12 0x03 0x07 s.toDevice).link.disturbs = [] := by decide +kernel

/-- A stream that nests too deep faults LOOP at its third REPEAT. -/
theorem test_nesting_too_deep :
    let s := withLane playing (withPattern [0x3002, 0x3004, 0x3008] (powered .on State.reset))
    let l := lane (after (.stepTimerExpiry 0 0) s).toDevice 0
    (l.state, l.fault, l.position) = (.faulted, some .loop, 2) ∧ l.stack = [⟨2, 4⟩, ⟨1, 2⟩] := by decide +kernel

/-- A loop with no step faults STEPLESS at its AGAIN, with 32 strobes made. -/
theorem test_loop_with_no_step :
    let s := withLane playing (withPattern [0x3028, 0x5007, 0x0001, 0x4000, 0x1000] (powered .on State.reset))
    let l := lane (after (.stepTimerExpiry 0 1) s).toDevice 0
    (l.state, l.fault, l.position) = (.faulted, some .stepless, 3) ∧ l.stack = [⟨1, 9⟩] ∧
      ((after (.stepTimerExpiry 0 1) s).engine.queue.map fun e => e.occurrences) = [32] := by decide +kernel

/-- The first step of the worked stream: RATE 50, PARK 0x0F, OPEN 0x21, REPEAT 3, VECTOR 0x5A. -/
theorem test_first_step_of_the_worked_stream :
    let s := withLane playing
      (withPattern [0x9000, 50, 0xA00F, 0x6021, 0x3003, 0x105A] (powered .on State.reset))
    let l := lane (after (.stepTimerExpiry 0 0x77) s).toDevice 0
    (l.vector, l.position, l.park, l.timer) = (0x5A, 6, 0x0F, .running 1050) ∧ l.stack = [⟨5, 3⟩] ∧
      (capture (after (.stepTimerExpiry 0 0x77) s).toDevice 0).count = 0 := by decide +kernel

/-- The lead lane's first step on a board already ON reads a CYCLE that makes a power cycle due (R86, R163): lane 1 is
started with power ON all the same, takes its sample and drives its vector, and then both lanes are held and
stopped. -/
theorem test_every_start_finds_power_on :
    let s := powered .on (inJob .ready (withPattern [0x8001, 0x105A] State.reset))
    let s := { s with job := { s.job with mask := some 3, target := some 0, period := 1 } }
    let t := after (.start 1 [0] (Vector.replicate 4 0x77)) s
    (t.job.state, t.power.state, (lane t.toDevice 0).state, (lane t.toDevice 1).state) =
        (.cycling, .falling, .held, .held) ∧
      (capture t.toDevice 1).sample = 0x77 ∧ (lane t.toDevice 1).vector = 0x5A := by decide +kernel

/-- A REPLY-LIMIT and a PAUSE in one message (R180): a step event between the two drives its vector before the lane is
held, and without one the lane is held as it stands. -/
theorem test_step_between_two_items :
    let s := withLane playing (withPattern [0x105A] (powered .on (inJob .running (inSlot 0 (.awaiting 11 2)))))
    let payload := commandItemBytes 6 1 0x17 [20] ++ commandItemBytes 0 2 0x07 []
    let t := fun between => after (.messageComplete (withChecksum payload) ⟨low, between⟩) s
    (lane (t [[.step 0 0x77]]).toDevice 0).vector = 0x5A ∧ (lane (t []).toDevice 0).vector = 0 ∧
      (lane (t [[.step 0 0x77]]).toDevice 0).state = .held ∧ (t []).bench.limit = 20 := by decide +kernel

/-! ## The statements' hypotheses are met -/

theorem witness_StepRunsFrontCommand : State.reset.pending = [] := by decide +kernel

theorem witness_AcceptedMarkBeginsFrame :
    let s := { State.reset with link := { State.reset.link with previousMark := some 240000, driveUntil := 240200 } }
    let cut := inSlot 14 (.awaiting 8 1)
    (cutShort cut false 14 ∧ endsUnheard cut 14 ∧ endsUnheard cut 15 ∧ ¬endsUnheard cut 13 ∧
        (after (.cadenceTimerExpiry 0 quietView) cut).link.errors = 0x8 ∧
        (after (.cadenceTimerExpiry 0 quietView) { cut with view := { cut.view with
          peers := cut.view.peers.set 14 ⟨true, 0, .asking, none, 8, none⟩ } }).view.roster =
            [⟨14, 1, 9, true⟩]) ∧
    (State.reset.link.driveUntil ≤ State.reset.link.previousMark.getD 0 + 0 ∧
        State.reset.link.previousMark = none) ∧
      s.link.driveUntil ≤ s.link.previousMark.getD 0 + 150000 ∧ 150000 ≤ 150000 := by decide +kernel

/-- A machine in ASKING whose own ASK of 8 frames was noted in frame 0, at the mark that begins frame 1. -/
def granted : Device :=
  let s := powered .asking State.reset
  { s.toDevice with link := { s.link with frame := 1 }, view := { s.view with notes := s.view.notes.set 6 (.ask 8) } }

/-- A machine RISING until the frame that begins, with rail 1's window as given. -/
def atRiseEnd (w : RailWindow) : Device :=
  let s := powered .rising State.reset
  { s.toDevice with power := { s.power with
      riseEnd := some 0, settings := { s.power.settings with windows := s.power.settings.windows.set 1 w } } }

/-- A machine FALLING at a fall count, with a request pending. -/
def fallingAt (n : Nat) : Device :=
  let s := powered .falling State.reset
  { s.toDevice with power := { s.power with fallCount := n, pendingRequest := true } }

theorem witness_MarkMovesTheBoard :
    (⟨6, 1, 9, false⟩ ∈ (viewMark (ownSlot granted) 1 granted.view).roster ∧ ownSlot granted = some 6 ∧
        granted.view.roster = [] ∧ granted.power.state = .asking ∧
        (peerMark granted).power.riseEnd = some 9) ∧
      ((supervised 1).power.state = .on ∧ (powerMark (supervised 1).toDevice).power.state = .on) ∧
      ((atRiseEnd ⟨0, 16383⟩).power.state = .rising ∧ (atRiseEnd ⟨0, 16383⟩).power.riseEnd = some 0 ∧
        (powerMark (atRiseEnd ⟨0, 16383⟩)).power.state = .on) ∧
      (¬1000 ≤ (atRiseEnd ⟨1000, 16383⟩).power.rails[(1 : RailId)].sample ∧
        (powerMark (atRiseEnd ⟨1000, 16383⟩)).power.state = .tripped) ∧
      ((fallingAt 6).power.state = .falling ∧ (powerMark (fallingAt 6)).power.state = .falling) ∧
      (7 ≤ (fallingAt 7).power.fallCount ∧ (powerMark (fallingAt 7)).power.state = .asking) := by decide +kernel

/-- A machine in frame 10 with three entries, stamped 6, 7 and 8. -/
def withDue : Device :=
  { State.reset.toDevice with
    link := { State.reset.link with frame := 10 },
    engine := { State.reset.engine with queue :=
      [⟨.glitch 0, 6, 1, .cold, none⟩, ⟨.trip 1, 7, 1, .cold, none⟩, ⟨.glitch 2, 8, 1, .cold, none⟩] } }

theorem witness_MarkSettlesAndOffers :
    (3 ≤ frameAge withDue.link.frame 7 ∧ frameAge withDue.link.frame 7 < 2147483651) ∧
      ¬(3 ≤ frameAge withDue.link.frame 8 ∧ frameAge withDue.link.frame 8 < 2147483651) ∧
      ((settleDue withDue).engine.table.map fun r => r.serial) = [1, 2] ∧
      (settleDue withDue).engine.queue.length = 1 ∧ State.reset.link.mode ≠ .listenOnly ∧
      (Device.cold 0 0).link.mode = .listenOnly := by decide +kernel

theorem witness_PulseLineWithoutMark :
    let s := { State.reset with link := { State.reset.link with previousMark := some 240000, driveUntil := 240200 } }
    (s.link.previousMark = some 240000 ∧ 240000 + 199 < s.link.driveUntil ∧ s.link.driveUntil ≤ 240000 + 200 ∧
        s.link.driveUntil ≤ 240000 + 149999 ∧ 149999 < 150000) ∧
      { State.reset.link with markPulse := true }.markPulse = true ∧ State.reset.link.markPulse = false := by
  decide +kernel

theorem witness_HeaderIsJudged :
    (receives (inSlot 3 .idle) 3 ∧ (inSlot 3 .idle).link.reception = .idle ∧ (4 : StationId) ≠ 3) ∧
      decodeHeader (headerData 0x31 0x51 1) (checkByte (headerData 0x31 0x51 1)) = .clean (headerData 0x31 0x51 1) ∧
      decodeHeader (headerData 0x30 80 1) (checkByte (headerData 0x31 80 1)) = .corrected (headerData 0x31 80 1) ∧
      decodeHeader (headerData 0x32 80 1) (checkByte (headerData 0x31 80 1)) = .uncorrectable ∧
      (after (.headerReceived 0x31 0 0 (checkByte (headerData 0x31 0 0))) (inSlot 3 .idle)).link.reception = .done ∧
      (inSlot 3 .done).link.reception ≠ .idle ∧ State.reset.link.slot = none := by decide +kernel

theorem witness_BadMessageBlindsSlot :
    let s := inSlot 0 (.awaiting 1 1)
    (receives s 0 ∧ s.link.reception = .awaiting 1 1 ∧
        be16 (crc16 ([0x01, 0x00, 0x00].take 1)).toNat ≠ [0x01, 0x00, 0x00].drop 1) ∧
      (be16 (crc16 ((withChecksum [0x11]).take 1)).toNat = (withChecksum [0x11]).drop 1 ∧
        parseItems true 1 ((withChecksum [0x11]).take 1) = none) ∧
      [(0x01 : Byte), 0x00].length < 1 + 2 ∧ (inSlot 0 .idle).link.reception = .idle := by decide +kernel

theorem witness_PeerItemsAreTaken :
    (receives (inSlot 3 (.awaiting 8 1)) 3 ∧ (3 : StationId) ≠ 0 ∧
        (inSlot 3 (.awaiting 8 1)).link.reception = .awaiting 8 1) ∧
      (1 ≠ strapBudget State.reset.toDevice ∧ (inSlot 3 (.awaiting 8 1)).view.peers[(3 : StationId)].budget ≠ some 1) ∧
      ¬(2 ≠ strapBudget State.reset.toDevice ∧ State.reset.view.peers[(3 : StationId)].budget ≠ some 2) ∧
      (receives (inSlot 3 (.awaiting 4 1)) 3 ∧ (inSlot 3 (.awaiting 4 1)).link.reception = .awaiting 4 1) ∧
      (after (.messageComplete (withChecksum [0x02, 1, 1, 0]) quietMessage) (inSlot 3 (.awaiting 4 1))).view.ring[1]? =
        some ⟨8, 0⟩ := by decide +kernel

theorem witness_SlotZeroItemIsExecuted :
    (receives (inSlot 0 (.awaiting 80 1)) 0 ∧ (List.replicate 75 (0 : Byte)).length ≤ 75 ∧
        (inSlot 0 (.awaiting 80 1)).link.reception = .awaiting (5 + (List.replicate 75 (0 : Byte)).length) 1) ∧
      (6 : Byte).toNat = State.reset.link.bay.toNat ∧ (0 : Byte).toNat = 0 ∧
      ((7 : Byte).toNat ≠ 0 ∧ (7 : Byte).toNat ≠ State.reset.link.bay.toNat) ∧
      ([(20 : Byte)].length + ([] : List Byte).length ≤ 70 ∧
        (inSlot 0 (.awaiting 11 2)).link.reception =
          .awaiting (10 + [(20 : Byte)].length + ([] : List Byte).length) 2) := by decide +kernel

theorem witness_SlotWithoutMessageIsBlindOrSilent :
    (receives (inSlot 15 (.awaiting 8 1)) 15 ∧ (inSlot 15 (.awaiting 8 1)).link.reception ≠ .done ∧
        (inSlot 15 (.awaiting 8 1)).link.reception ≠ .idle) ∧
      (receives (inSlot 0 .idle) 0 ∧ (inSlot 0 .idle).link.reception = .idle) ∧
      (receives (inSlot 15 .idle) 15 ∧ (inSlot 15 .idle).link.reception = .idle) ∧
      ((inSlot 6 .idle).link.slot = some 6 ∧ ownSlot (inSlot 6 .idle).toDevice = some 6) ∧
      (inSlot 3 .done).link.slot = some 3 ∧ (inSlot 3 .done).link.reception = .done ∧ State.reset.link.slot = none := by
  decide +kernel

/-- The bytes 0x61 and 0x00 on the line: a start bit, bits 0 to 7 (1000 0110 for 0x61) and a stop bit each (R193). -/
theorem test_bytes_on_the_line :
    lineLevels [0x61, 0x00] =
      [false, true, false, false, false, false, true, true, false, true,
        false, false, false, false, false, false, false, false, false, true] := by decide +kernel

/-- Read-back finds the first bit that differs, in the order sent (R17, R193). -/
theorem test_first_difference :
    firstDifference (lineLevels [0x61]) [false, true, true, true] = some 2 ∧
      firstDifference (lineLevels [0x61]) (lineLevels [0x61]) = none := by decide +kernel

/-- Bay 6 in its own slot with a reply of 64 bytes and one of 12, and every cause flagged: 8 bytes are left for notices,
which hold that of cause 13, of level 7. -/
def fullMessage : State :=
  let s := inSlot 6 .idle
  { s with
    causes := { s.causes with records := s.causes.records.map fun r => { r with flag := true, count := 1 } },
    link := { s.link with notices := 0xFFFE },
    bench := ⟨[⟨1, 1, .accepted, false, List.replicate 58 0⟩, ⟨1, 2, .accepted, false, List.replicate 6 0⟩], 64⟩ }

theorem witness_OwnMessageBegins :
    (fullMessage.link.slot ≠ none ∧ fullMessage.link.slot = ownSlot fullMessage.toDevice ∧
        fullMessage.link.mode = .normal ∧ fullMessage.link.begun = false ∧ LevelInv fullMessage.toDevice) ∧
      (assemble fullMessage.toDevice).replies = 1 ∧ (assemble fullMessage.toDevice).notices = 0x2000 ∧
      goesBefore fullMessage.causes 12 1 ∧ goesBefore fullMessage.causes 1 2 ∧
      (after .ownSlotTransmit fullMessage).link.begun = true ∧ State.reset.link.slot = none := by decide +kernel

theorem witness_OwnMessageIsGoodAtReceiver :
    (State.reset.link.bay ≠ 0 ∧ BenchInv State.reset.bench) ∧ BenchInv fullMessage.bench ∧
      (assemble fullMessage.toDevice).bytes.length = 84 := by decide +kernel

/-- The first bit of the message and its last, the 140th, are driven, and none after it; a collision comes at each. -/
theorem witness_TransmissionEnds :
    let s := after .ownSlotTransmit (inSlot 6 .idle)
    let f := assemble (inSlot 6 .idle).toDevice
    let t : State := { s with now := s.now + 1399 }
    s.link.flight = some f ∧ (inSlot 6 .idle).link.flight = none ∧ f.bytes.length = 14 ∧ f.bytes ≠ [] ∧
      (s.now = 61000 ∧ messageLevel s.toDevice = some false ∧ (after .collision s).now = 61010) ∧
      (messageLevel t.toDevice = some true ∧ messageLevel { t.toDevice with now := s.now + 1400 } = none ∧
        (after .collision t).link.flight = none ∧ (after .collision t).now = (after .transmissionClean s).now) ∧
      { s with link := { s.link with flight := some { f with bytes := [] } } }.link.flight =
        some { f with bytes := [] } ∧
      f.disturbs.Pairwise (fun a b => a.frame ≠ b.frame) := by decide +kernel

/-- The words of the stream codes as R199 lays them out, at the bounds of each range. -/
theorem witness_StreamWordsDecode :
    decodeCode 0x0000 = .stop ∧ decodeCode 0x0FFF = .undefinedCode ∧ decodeCode 0x1F5A = .vector 0x5A ∧
      decodeCode 0x2000 = .hold 0 ∧ decodeCode 0x2FFF = .hold 4095 ∧ decodeCode 0x3003 = .loop 3 ∧
      decodeCode 0x4123 = .again ∧ decodeCode 0x5012 = .strobe 0x12 ∧ decodeCode 0x6021 = .openWindow 0x21 ∧
      decodeCode 0x7021 = .closeWindow 0x21 ∧ decodeCode 0x8001 = .mark 1 ∧ decodeCode 0x9000 = .rate ∧
      decodeCode 0xA00F = .park 0x0F ∧ decodeCode 0xBFFF = .wrap ∧ decodeCode 0xC000 = .undefinedCode ∧
      decodeCode 0xFFFF = .undefinedCode := by decide +kernel

theorem witness_SamplesAreSupervised :
    let s := supervised 1
    let t := supervised 2
    let z := supervised 0
    let f := powered .falling State.reset
    (s.power.state = .on ∧ s.power.rails[(1 : RailId)].run = 1 ∧ t.power.rails[(1 : RailId)].run = 2 ∧
        z.power.rails[(1 : RailId)].run = 0 ∧ s.power.rails[(1 : RailId)].first = some 0 ∧
        s.power.settings.windows[(1 : RailId)].low ≤ 1000 ∧ ¬s.power.settings.windows[(1 : RailId)].low ≤ 999 ∧
        5000 ≤ s.power.settings.windows[(1 : RailId)].high ∧ ¬5001 ≤ s.power.settings.windows[(1 : RailId)].high ∧
        s.link.mode ≠ .listenOnly ∧ (0 : Frame) = s.link.frame) ∧
      (f.power.state = .falling ∧ (∀ q : RailId, f.power.rails[q].sample < 500) ∧
        (after (.converterSample (.rail 0) 499) f).power.state = .off ∧
        (after (.converterSample (.rail 0) 500) f).power.state = .falling) ∧
      (State.reset.power.rails[(1 : RailId)].fullScale = false ∧
        (after (.converterSample (.rail 1) 20000) State.reset).causes.records[(10 : Fin 15)].count = 1) ∧
      (s.power.currentRun < 2 ∧ s.power.settings.run < 3001 ∧ 3000 ≤ s.power.settings.run) := by
  decide +kernel

theorem witness_ThirdOverrunTrips :
    let s := supervised 2
    let u := powered .rising s
    (s.power.state = .on ∧ s.power.rails[(1 : RailId)].run = 2 ∧
        (999 < s.power.settings.windows[(1 : RailId)].low ∨ s.power.settings.windows[(1 : RailId)].high < 999) ∧
        s.power.settings.windows[(1 : RailId)].high < min 16383 20000 ∧
        s.power.rails[(1 : RailId)].fullScale = false) ∧
      (s.power.currentRun = 2 ∧ s.power.state = .on ∧ s.power.settings.run < min 16383 3001) ∧
      (u.power.currentRun = 2 ∧ u.power.state = .rising ∧ u.power.settings.inrush < min 16383 20000) ∧
      s.job.state.active = false ∧
      ((inJob .running { s with job := { s.job with retries := 1 } }).job.state = .running ∧
        (inJob .running { s with job := { s.job with retries := 1 } }).job.retriesUsed <
          (inJob .running { s with job := { s.job with retries := 1 } }).job.retries) ∧
      ((inJob .running s).job.retriesUsed = (inJob .running s).job.retries ∧
        (after (.converterSample (.rail 1) 999) (inJob .running s)).job.closing = some .exhausted) := by decide +kernel

/-- A trip in each job state, with no retry left: the job state and the closing reason it leaves (R170). -/
theorem test_trip_by_job_state :
    let d : JobState → Bool → Device := fun j due =>
      { (powered .tripped State.reset).toDevice with
        engine := { State.reset.engine with queue := [⟨.trip 0, 0, 1, .cold, none⟩] },
        job := { State.reset.job with state := j, mask := some 1, finishDue := due } }
    let left := fun (j : JobState) (due : Bool) => ((jobTrip (d j due)).job.state, (jobTrip (d j due)).job.closing)
    [JobState.powering, .running, .paused, .cycling, .recovering].all
        (fun j => decide (left j false = (.closing, some .exhausted))) = true ∧
      left .paused true = (.closing, some .target) ∧ (jobTrip (d .paused true)).job.finishDue = false ∧
      left .closing false = (.closing, none) ∧
      [JobState.empty, .ready, .concluded, .aborted].all (fun j => decide (jobTrip (d j false) = d j false)) = true := by
  decide +kernel

theorem witness_TemperatureMovesBand :
    marks State.reset quietView (.cadenceTimerExpiry 0 quietView) ∧
      marks State.reset quietView (.candidateMark 0 quietView) :=
  ⟨.inl ⟨0, rfl⟩, .inr ⟨0, rfl, by decide +kernel, .inl rfl⟩⟩

theorem witness_StepEventRunsCodes :
    let h := withLane { playing with holdLeft := 1 } State.reset
    let s := fun w => withLane playing (withPattern [w] State.reset)
    let e := withLane { playing with position := 32767 } State.reset
    let b := withLane { playing with position := 32768 } State.reset
    ((lane h.toDevice 0).state.going = true ∧ (lane h.toDevice 0).timer = .running 1000 ∧
        0 < (lane h.toDevice 0).holdLeft) ∧
      ((lane (s 0x105A).toDevice 0).state.going = true ∧ (lane (s 0x105A).toDevice 0).timer = .running 1000 ∧
        (lane (s 0x105A).toDevice 0).holdLeft = 0 ∧ (lane (s 0x105A).toDevice 0).position < 32768 ∧
        (patternRead (s 0x105A).pattern 0).toNat / 4096 = 1 ∧ (patternRead (s 0x2003).pattern 0).toNat / 4096 = 2) ∧
      ((lane e.toDevice 0).position < 32768 ∧ patternRead e.pattern (lane e.toDevice 0).position = 0) ∧
      32768 ≤ (lane b.toDevice 0).position ∧ 12 ≤ (patternRead (s 0xC000).pattern 0).toNat / 4096 ∧
      (patternRead (s 0x0001).pattern 0 ≠ 0 ∧ (patternRead (s 0x0001).pattern 0).toNat / 4096 = 0) := by decide +kernel

theorem witness_CodesOfARun :
    let d := fun (l : Lane) (w : Word) => (withLane l (withPattern [w] (inJob .running State.reset))).toDevice
    let top := fun w : Word => (patternRead (d playing w).pattern 0).toNat / 4096
    [0x1000, 0x2000, 0x3001, 0x4000, 0x5000, 0x6000, 0x7000, 0x8001, 0x9000, 0xA000, 0xB000].map top =
        [1, 2, 3, 4, 5, 6, 7, 8, 9, 10, 11] ∧ 12 ≤ top 0xC000 ∧
      ((0x3001 : Word).setWidth 8 ≠ (0 : Byte) ∧ (0x3000 : Word).setWidth 8 = (0 : Byte)) ∧
      leadLane (d playing 0x8001) = some 0 ∧ leadLane State.reset.toDevice ≠ some 0 ∧
      (lane (d { playing with stack := [⟨1, 2⟩] } 0x4000) 0).stack = ⟨1, 2⟩ :: [] ∧
      leads (d playing 0x8001) 0 ∧ ¬leads (d playing 0x8001) 1 ∧ ¬leads State.reset.toDevice 0 ∧
      (lane (d { playing with state := .finishing } 0xB000) 0).state = .finishing ∧
      (lane (withLane { playing with position := 32767 } State.reset).toDevice 0).position = 32767 := by
  decide +kernel

theorem witness_StrobesAndClosesAreJudged :
    let s := powered .on State.reset
    let w := withCapture { Capture.cold with window := some 0x21 } s
    let o := withCapture { Capture.cold with window := some 0x21 } State.reset
    (State.reset.power.state ≠ .on ∧ s.power.state = .on ∧ (0x01 : Byte) ≠ 0 ∧
        ((capture s.toDevice 0).sample ^^^ 0x00) &&& 0x01 = 0 ∧
        ((capture s.toDevice 0).sample ^^^ 0x80) &&& 0x80 = 1#8 <<< 7 ∧
        (((capture s.toDevice 0).sample ^^^ 0x01) &&& 0x03).getLsbD 0 = true ∧
        (((capture s.toDevice 0).sample ^^^ 0x01) &&& 0x03).getLsbD 1 = false ∧ s.engine.queue.length ≤ 24) ∧
      (capture w.toDevice 0).window = some 0x21 ∧ w.power.state = .on ∧ (capture w.toDevice 0).signature = 0xFFFF ∧
      (capture w.toDevice 0).signature ≠ 0x29B1 ∧ o.power.state ≠ .on ∧ (capture o.toDevice 0).window ≠ some 0x22 := by
  decide +kernel

/-- A machine in frame 1 with some queue entries, the GLITCH of rail 0 in frame 0 first. -/
def withQueue (rest : List Entry) : Device :=
  { State.reset.toDevice with
    link := { State.reset.link with frame := 1 },
    engine := { State.reset.engine with queue := ⟨.glitch 0, 0, 255, .cold, none⟩ :: rest } }

/-- Thirty-one entries of signatures in frame 1. -/
def signatures : List Entry := (List.range 31).map fun k => ⟨.signature 0 (byteOf k), 1, 1, .cold, none⟩

theorem witness_EventsAreQueuedAndTallied :
    let one := withQueue [⟨.trip 0, 1, 1, .cold, none⟩]
    let full := withQueue signatures
    let tally : Tally := ⟨[.glitch 1, .glitch 2], false⟩
    (one.engine.queue = [] ++ [⟨.glitch 0, 0, 255, .cold, none⟩] ++ [⟨.trip 0, 1, 1, .cold, none⟩] ∧
        ((takeEvent (.glitch 0) 0 one).engine.queue.map fun e => e.occurrences) = [255, 1]) ∧
      ((∀ x ∈ one.engine.queue, ¬(x.locus = .glitch 3 ∧ x.stamp = 0)) ∧ frameEarlier 0 0 = false ∧
        frameEarlier 0 1 = true ∧ (∀ j : Fin 8, one.engine.pool[j] = .free) ∧
        ((takeEvent (.glitch 3) 0 one).engine.queue.map fun e => e.snapshot) = [none, some 0, none]) ∧
      (signatures.length = 31 ∧ (∀ x ∈ full.engine.queue, ¬(x.locus = .trip 3 ∧ x.stamp = 1)) ∧
        (takeEvent (.trip 3) 1 full).engine.earlySettles = 1) ∧
      (3 ≤ (tally.loci ++ [Locus.trip 0]).length ∧ Locus.trip 0 ∉ tally.loci ∧
        (takeEvent (.trip 0) 0 { one with engine := { one.engine with tallyBefore := tally } }).link.disturbs =
          [⟨0, false, true⟩]) := by decide +kernel

theorem witness_StimulusPinsShowVectorOrPark :
    let s := withLane { playing with park := 0x0F } (withPattern [0x105A] (powered .on (inJob .running State.reset)))
    ((lane s.toDevice 0).state.going = true ∧ (lane s.toDevice 0).timer = .running 1000 ∧
        (lane s.toDevice 0).holdLeft = 0 ∧ (lane s.toDevice 0).position < 32768 ∧ s.power.state = .on ∧
        (patternRead s.pattern (lane s.toDevice 0).position).toNat / 4096 = 1) ∧
      stimulusPins (after (.stepTimerExpiry 0 0) s).toDevice 0 = 0x5A ∧
      stimulusPins (after (.stepTimerExpiry 0 0) (powered .falling s)).toDevice 0 = 0x0F ∧
      (hasRoom s ∧ s.job.state = .running ∧ s.job.state.active = true ∧
        stimulusPins (after (.pause 1 []) s).toDevice 0 = 0x0F) := by decide +kernel

theorem witness_DwellCountsDownAndEnds :
    let s := inJob .cycling State.reset
    let w := fun k => { s with job := { s.job with phase := some .dwelling, dwell := some k } }
    (w 1).job.phase = some .dwelling ∧ (w 1).job.dwell = some 1 ∧ (w 2).job.dwell = some 2 ∧
      State.reset.job.phase ≠ some .dwelling := by decide +kernel

theorem witness_ItemsThatAreNotExecuted :
    itemParts (.jobLanes 7 []) = some (0x02, 7, []) ∧ 8 ≤ fullQueue.bench.replies.length ∧ hasRoom State.reset ∧
      rightLength 0x02 [] = false ∧ rightLength 0x01 [0, 0] = false ∧ (0 : Byte).toNat = 0 ∧ 24 < (25 : Byte).toNat := by
  decide +kernel

theorem witness_LoadWritesItsWords :
    let args : List Byte := [0x7F, 0xFF, 1, 0x12, 0x34]
    hasRoom State.reset ∧ patternWf State.reset.pattern = true ∧ 3 ≤ args.length ∧
      args.length = 3 + 2 * nat8 args 2 ∧ (1 ≤ nat8 args 2 ∧ nat8 args 2 ≤ 30 ∧ nat16 args 0 + nat8 args 2 - 1 ≤ 32767) ∧
      ¬(1 ≤ nat8 [0, 0, 0] 2) ∧ (lane (withLane heldLane0 State.reset).toDevice 0).state = .held ∧
      (after (.load 1 args) State.reset).pattern = [(32767, 0x1234)] := by decide +kernel

/-- The arguments of a JOB-LANES with a start of lane 0, a mask and a rise window. -/
def lanesOf (start : Nat) (mask window : Byte) : List Byte :=
  be16 start ++ [0, 0, 0, 0, 0, 0, mask, 0, 2, window, 1]

theorem witness_JobLanesSetsTheJob :
    hasRoom State.reset ∧ (lanesOf 32767 15 4).length = 13 ∧ (inJob .paused State.reset).job.state.active = true ∧
      State.reset.job.state.active = false ∧
      (15 < nat8 (lanesOf 0 16 4) 8 ∧ nat8 (lanesOf 0 0 4) 8 < 1 ∧ 32767 < nat16 (lanesOf 32768 1 4) 0) ∧
      ¬(nat8 (lanesOf 32767 15 4) 8 < 1 ∨ 15 < nat8 (lanesOf 32767 15 4) 8 ∨
        ∃ i : LaneId, 32767 < nat16 (lanesOf 32767 15 4) (2 * i.val)) := by decide +kernel

/-- The arguments of a JOB-RAILS that names rail 0's window. -/
def railsOf (lowest highest : Nat) : List Byte :=
  [1] ++ be16 lowest ++ be16 highest ++ List.replicate 16 0

theorem witness_JobRailsStagesOrSets :
    hasRoom State.reset ∧ (railsOf 5000 4999).length = 21 ∧
      (min 16383 (nat16 (railsOf 5000 4999) 3) < min 16383 (nat16 (railsOf 5000 4999) 1)) ∧
      ¬(min 16383 (nat16 (railsOf 5000 5000) 3) < min 16383 (nat16 (railsOf 5000 5000) 1)) ∧
      (inJob .recovering State.reset).job.state.staging = true ∧ State.reset.job.state.staging = false ∧
      16383 < nat16 (railsOf 0 16384) 3 := by decide +kernel

theorem witness_JobLimitsStagesOrSets :
    hasRoom State.reset ∧ (List.replicate 9 (0 : Byte)).length = 9 ∧
      (inJob .paused State.reset).job.state.staging = true ∧ (inJob .closing State.reset).job.state.staging = false := by
  decide +kernel

theorem witness_JobCausesStagesOrSets :
    hasRoom State.reset ∧ (List.replicate 18 (1 : Byte)).length = 18 ∧ nat16 (List.replicate 18 (1 : Byte)) 0 ≠ 0 ∧
      (inJob .cycling State.reset).job.state.staging = true ∧ (inJob .powering State.reset).job.state.staging = false ∧
      nat16 (List.replicate 18 (0 : Byte)) 0 = 0 ∧ State.reset.link.mode ≠ .listenOnly ∧
      (Device.cold 0 0).link.mode = .listenOnly := by decide +kernel

theorem witness_StartBeginsTheJob :
    hasRoom (inJob .ready State.reset) ∧ (inJob .ready State.reset).job.state = .ready ∧
      State.reset.job.state = .empty ∧ (inJob .ready State.reset).power.state ≠ .on ∧
      (powered .on (inJob .aborted State.reset)).power.state = .on ∧
      (after (.start 1 [0] low) (powered .on (inJob .aborted State.reset))).job.state = .running ∧
      (inJob .powering State.reset).job.state = .powering ∧
      (let w := powered .on (withPattern [0x105A] (inJob .recovering State.reset))
       let d : Device := { w.toDevice with job := { w.job with phase := some .awaitingOn } }
       d.job.phase = some .awaitingOn ∧ (jobPowerOn d).job.state = .running ∧
         (startLane 0 { d with power := { d.power with state := .off } }).2 = [.report] ∧
         (lane (startLane 0 d).1 0).vector = 0x5A ∧ (lane (startLane 0 d).1 0).state = .playing ∧
         (lane (startLane 1 { d with pattern := [] }).1 1).state = .stopped) := by decide +kernel

theorem witness_PauseHoldsTheLanes :
    hasRoom (inJob .running State.reset) ∧ (inJob .running State.reset).job.state = .running ∧
      State.reset.job.state ≠ .running := by decide +kernel

theorem witness_ResumeReleasesTheLanes :
    let s := withLane heldLane0 (powered .on (inJob .paused State.reset))
    let f := { s with job := { s.job with finishDue := true } }
    hasRoom s ∧ State.reset.job.state ≠ .paused ∧ s.job.state = .paused ∧
      (∀ i : LaneId, (lane s.toDevice i).state = .held → (lane s.toDevice i).timer = .frozen (39 + 1)) ∧
      s.job.finishDue = false ∧ (lane s.toDevice 0).state = .held ∧ (lane s.toDevice 1).state ≠ .held ∧
      f.job.finishDue = true ∧ f.power.state = .on ∧ enabled f.toDevice 0 = true ∧
      (lane (withLane { heldLane0 with timer := .frozen 0 } s).toDevice 0).timer = .frozen 0 := by decide +kernel

theorem witness_AbortClosesTheJob :
    let s := powered .on (inJob .running State.reset)
    let c := inJob .closing State.reset
    hasRoom s ∧ s.power.switchClosed = s.power.state.closed ∧ s.job.state.active = true ∧
      State.reset.job.state.active = false ∧ (after (.abort 1 []) s).power.state = .falling ∧
      c.power.state = .off ∧ c.engine.queue = [] ∧ c.job.state.active = true := by decide +kernel

theorem witness_PowerGivesRequests :
    hasRoom State.reset ∧ 1 < (2 : Byte).toNat ∧ State.reset.job.state.active = false ∧
      (inJob .paused State.reset).job.state.active = true ∧ (1 : Byte).toNat ≤ 1 := by decide +kernel

theorem witness_TableIsClearedAndPinned :
    let s := withTable [recordOf 3 (.glitch 0)]
    let p := withTable [{ recordOf 3 (.glitch 0) with pinned := true }]
    let e := withTable ((List.finRange 8).map (fun k => { recordOf (k.val + 1) (.strobe 0 k 0) with pinned := true }) ++
      [recordOf 9 (.glitch 0)])
    (State.reset.job.state.active = false ∧ (inJob .closing State.reset).job.state.active = true) ∧
      (hasRoom s ∧ TableInv s.engine ∧ (be32 3).length = 4 ∧ nat32 (be32 3) 0 = 3 ∧
        ∃ r ∈ s.engine.table, r.serial = 3 ∧ r.pinned = false) ∧
      (∀ r ∈ s.engine.table, r.serial ≠ nat32 (be32 0) 0) ∧
      (TableInv p.engine ∧ ∃ r ∈ p.engine.table, r.serial = 3 ∧ r.pinned = true) ∧
      TableInv e.engine ∧ 8 ≤ (e.engine.table.filter fun x => x.pinned).length ∧
      ∃ r ∈ e.engine.table, r.serial = nat32 (be32 9) 0 ∧ r.pinned = false := by decide +kernel

theorem witness_OffsetQueriesCutReadouts : hasRoom State.reset ∧ State.reset.view.ring.length = 5 := by
  decide +kernel

theorem witness_TableQueriesCarryWholeReadouts :
    let c : Conditions := ⟨5, Vector.replicate 4 1, 2, -3, Vector.replicate 4 0⟩
    let s := withTable [recordOf 1 (.glitch 0), recordOf 2 (.trip 0), recordOf 3 (.glitch 1)]
    let n := { s with bench := { s.bench with limit := 33 } }
    let t := withTable [{ recordOf 1 (.glitch 0) with snapshot := some 7 }, recordOf 2 (.trip 0)]
    let a := { t with engine := { t.engine with pool := t.engine.pool.set 7 (.attached c) } }
    (hasRoom s ∧ s.engine.table.drop 3 = [] ∧ s.engine.table.drop 0 ≠ [] ∧ (s.bench.limit - 6) / 28 = 2 ∧
        (n.bench.limit - 6) / 28 = 0 ∧ (s.engine.table.drop 1)[1]? = some (recordOf 3 (.glitch 1))) ∧
      hasRoom a ∧ a.engine.table[(2 : Byte).toNat]? = none ∧
      (∃ r, a.engine.table[(1 : Byte).toNat]? = some r ∧ r.snapshot = none) ∧
      (∃ r, a.engine.table[(0 : Byte).toNat]? = some r ∧ r.snapshot = some 7) ∧
      a.engine.pool[(7 : Fin 8)] = .attached c := by
  refine ⟨by decide +kernel, by decide +kernel, by decide +kernel, ⟨_, rfl, by decide +kernel⟩,
    ⟨_, rfl, by decide +kernel⟩, by decide +kernel⟩

/-- A machine whose board is RISING until frame 8, with its own roster entry, and a mark waiting. -/
def rising : State :=
  let s := powered .rising State.reset
  { s with power := { s.power with riseEnd := some 8 },
           view := { s.view with roster := [⟨6, 0, 8, false⟩] },
           pending := [.cadenceTimerExpiry 0 quietView] }

theorem witness_LanesJobAndPeersReadoutFields :
    let s := withLane { playing with stack := [⟨2, 4⟩, ⟨1, 2⟩] } State.reset
    let o := withLane { playing with stack := [⟨1, 2⟩] } State.reset
    (lane s.toDevice 0).stack = [⟨2, 4⟩, ⟨1, 2⟩] ∧ (lane o.toDevice 0).stack = [⟨1, 2⟩] ∧
      (lane State.reset.toDevice 0).stack = [] ∧ State.reset.view.ring.length = 5 ∧
      State.reset.view.ring[4]? = some ⟨0, 0⟩ ∧ rising.view.roster[0]? = some ⟨6, 0, 8, false⟩ := by decide +kernel

theorem witness_ClearCausesRearms :
    [(0xFF : Byte), 0xFE].length = 2 ∧ hasRoom State.reset ∧ 8 ≤ fullQueue.bench.replies.length ∧
      (nat16 [0xFF, 0xFE] 0).testBit 15 = true ∧ (nat16 [0xFF, 0xFE] 0).testBit 1 = true ∧
      (nat16 [0x7F, 0xFE] 0).testBit 15 = false := by decide +kernel

theorem witness_ReplyLimitIsClamped :
    hasRoom State.reset ∧ 8 ≤ (8 : Byte).toNat ∧ (64 : Byte).toNat ≤ 64 ∧ (7 : Byte).toNat < 8 ∧
      64 < (65 : Byte).toNat := by decide +kernel

theorem witness_RestartKeepsAndClears :
    hasRoom State.reset ∧ 8 ≤ fullQueue.bench.replies.length ∧
      (after (.restart 9 []) State.reset).bench.replies = [⟨0x18, 9, .accepted, false, []⟩] := by decide +kernel

/-- A full table: 48 STROBE records of score 256, the one of serial 5 with a score of 3. -/
def fullTable (evictableOne : Bool) : State :=
  withTable ((List.range 48).map fun k =>
    { recordOf (k + 1) (.strobe 0 0 (byteOf k)) with score := if evictableOne ∧ k = 4 then 3 else 256 })

theorem witness_SettleScoresOrCountsRack :
    let s := withTable [recordOf 3 (.glitch 0)]
    let h := withTable [{ recordOf 3 (.glitch 0) with opportunities := 65535 }]
    let rack := { s with view := { s.view with ring := [⟨0x38, 0⟩, ⟨0, 0⟩, ⟨0, 0⟩, ⟨0, 0⟩, ⟨0, 0⟩] } }
    (TableInv s.engine ∧ 3 ≤ coincidence rack.toDevice 0 ∧ coincidence s.toDevice 0 = 0 ∧
        s.engine.table = [] ++ [recordOf 3 (.glitch 0)] ++ [] ∧ (recordOf 3 (.glitch 0)).opportunities + 255 ≤ 65535) ∧
      (TableInv h.engine ∧ 65535 < 65535 + 1) ∧
      ((∀ r ∈ s.engine.table, r.locus ≠ .trip 2) ∧ s.engine.table.length < 48) := by decide +kernel

theorem witness_SettleScoresOrCountsRack_full :
    let g := { (fullTable true).engine with nextSerial := 49 }
    let p := (fullTable false).engine
    (TableInv g ∧ 48 ≤ g.table.length ∧ (∀ r ∈ g.table, r.locus ≠ .glitch 0) ∧
        ∃ v ∈ g.table, v.pinned = false ∧ v.latch = false ∧ v.score < 256 ∧
          ∀ r ∈ g.table, r.pinned = false ∧ r.latch = false ∧ r.score < 256 →
            v.score < r.score ∨ (v.score = r.score ∧ v.serial ≤ r.serial)) ∧
      ∀ r ∈ p.table, ¬(r.pinned = false ∧ r.latch = false ∧ r.score < 256) := by decide +kernel

theorem witness_CycleIsCountedWhereItMay :
    let s := inJob .running (powered .on State.reset)
    let met := { s with job := { s.job with cycles := 1 } }
    let due := { s with job := { s.job with period := 1 } }
    let paused := inJob .paused State.reset
    s.job.state = .running ∧ (met.job.target = some 2 ∧ met.job.cycles + 1 = 2) ∧ due.job.cycles + 1 ≠ 2 ∧
      (due.job.staged.period.getD due.job.period ≠ 0 ∧
        (due.job.cycles + 1) % due.job.staged.period.getD due.job.period = 0) ∧
      (due.power.state = .on ∧ (powered .asking due).power.state = .asking) ∧
      s.job.staged.period.getD s.job.period = 0 ∧ (paused.job.state = .paused ∧ paused.job.finishDue = false) ∧
      (inJob .closing s).job.state = .closing := by decide +kernel

/-- What each request leaves of a PLAYING, a FINISHING, a HELD and a STOPPED lane (R89, R91, R92). -/
theorem test_requests_to_lanes :
    let states := fun r : LaneRequest => ([playing, { playing with state := .finishing }, heldLane0, Lane.cold].map
      fun l => let x := lane (deliver [.request r] (withLane l State.reset).toDevice) 0; (x.state, x.resume))
    states .finish = [(.finishing, none), (.finishing, none), (.held, some .finishing), (.idle, none)] ∧
      states .hold = [(.held, some .playing), (.held, some .finishing), (.held, some .finishing), (.idle, none)] ∧
      states .stop = [(.stopped, none), (.stopped, none), (.stopped, none), (.idle, none)] ∧
      states .powerLeft = [(.stopped, none), (.stopped, none), (.held, some .finishing), (.idle, none)] := by
  decide +kernel

/-- The settings that name a window and a floor, brought into force: the runs are 0, and a notice is queued (R46,
R152, R161). -/
theorem witness_settingsInForce :
    let n : NamedSettings := { NamedSettings.none with
      windows := NamedSettings.none.windows.set 1 (some ⟨1, 2⟩), floor := some 0 }
    let s := supervised 2
    let c := { s.causes with records := s.causes.records.set 2 ⟨true, 1, false, 6⟩ }
    let d : Device := { s.toDevice with causes := c, job := { s.job with staged := n } }
    namesWindowOrLimit n ∧ namesFloorOrLevel n ∧ d.link.mode ≠ .listenOnly ∧ d.power.rails[(1 : RailId)].run = 2 ∧
      (stagedInForce d).power.rails[(1 : RailId)].run = 0 ∧
      (stagedInForce d).link.notices.getLsbD 3 = true ∧ passesFloor 0 d.causes.records[(2 : Fin 15)] ∧
      ¬namesWindowOrLimit NamedSettings.none ∧ ¬namesFloorOrLevel NamedSettings.none := by decide +kernel

theorem witness_ClosingTestSetsVerdict :
    let s := inJob .closing State.reset
    let p := withLane playing s
    let q := inJob .closing { State.reset with toDevice := withQueue [] }
    State.reset.job.state ≠ .closing ∧ s.job.state = .closing ∧ s.power.state = .off ∧ s.engine.queue = [] ∧
      (∀ i : LaneId, enabled s.toDevice i = true → (lane s.toDevice i).state.ended = true) ∧
      (∃ i : LaneId, enabled p.toDevice i = true ∧ (lane p.toDevice i).state.ended = false) ∧
      (q.job.state = .closing ∧ q.power.state = .off ∧ q.engine.queue ≠ []) ∧
      ([PowerState.asking, .rising, .on, .falling, .tripped].map fun x =>
          let d := closingTest (powered x s).toDevice
          (d.power.state, d.job.state)) =
        [(.off, .aborted), (.falling, .closing), (.falling, .closing), (.falling, .closing), (.off, .aborted)] := by
  decide +kernel

theorem witness_OccurrenceSetsOrCounts :
    CauseInv State.reset.causes ∧ State.reset.causes.records[(0 : Fin 15)].flag = false ∧
      (raiseCause .railGlitch State.reset.toDevice).causes.records[(0 : Fin 15)].flag = true := by decide +kernel

/-- The step takes the waiting mark: the board is still RISING, in frame 1. -/
theorem test_rising_at_a_mark :
    (match step rising with
      | .next t => decide (t.power.state = .rising ∧ t.link.frame = 1)
      | .fault _ => false
      | .refused _ => false) = true := by decide +kernel

theorem witness_StepKeepsPatternCanonical : patternWf rising.pattern = true ∧ ∃ t, step rising = .next t :=
  ⟨by decide +kernel, _, rfl⟩

theorem witness_StepKeepsSwitchAndThresholds : PowerInv rising.power ∧ ∃ t, step rising = .next t :=
  ⟨by decide +kernel, _, rfl⟩

theorem witness_StepKeepsRecordCounters : CountersInv rising.engine ∧ ∃ t, step rising = .next t :=
  ⟨by decide +kernel, _, rfl⟩

theorem witness_StepKeepsTableAndPool :
    let s := { rising with toDevice := { withQueue [⟨.trip 0, 1, 1, .cold, none⟩] with power := (supervised 1).power } }
    (TableInv rising.engine ∧ PoolInv rising.engine ∧ PinInv rising.engine ∧ ∃ t, step rising = .next t) ∧
      QueueInv s.toDevice ∧ runsAreShort s.toDevice ∧ ∃ t, step s = .next t :=
  ⟨⟨by decide +kernel, by decide +kernel, by decide +kernel, _, rfl⟩, by decide +kernel, by decide +kernel, _, rfl⟩

theorem witness_StepKeepsCauseCounts :
    CauseInv rising.causes ∧ LevelInv rising.toDevice ∧ ∃ t, step rising = .next t :=
  ⟨by decide +kernel, by decide +kernel, _, rfl⟩

theorem witness_StepKeepsLanesInRange : LanesInv rising.toDevice ∧ ∃ t, step rising = .next t :=
  ⟨by decide +kernel, _, rfl⟩

theorem witness_StepKeepsPeerView :
    ViewInv rising.toDevice ∧ (∃ t, step rising = .next t) ∧
      ∀ (bay : BitVec 4) (budget : BitVec 2), rising.pending.head? ≠ some (.coldStart bay budget) :=
  ⟨by decide +kernel, ⟨_, rfl⟩, nofun⟩

theorem witness_StepKeepsRiseOnRoster :
    WindowInv rising.toDevice ∧ RiseInv rising.toDevice ∧ ∃ t, step rising = .next t := by
  refine ⟨⟨by decide +kernel, by decide +kernel, by decide +kernel⟩, fun _ => ⟨8, rfl, by decide +kernel,
    by decide +kernel, ⟨6, 0, 8, false⟩, List.mem_singleton.mpr rfl, by decide +kernel⟩, _, rfl⟩

theorem witness_StepKeepsReplyQueue : BenchInv rising.bench ∧ ∃ t, step rising = .next t :=
  ⟨by decide +kernel, _, rfl⟩

theorem witness_StepKeepsCyclesWithinTarget :
    let s := inJob .running State.reset
    TargetInv s.job ∧ underTarget s.job = true ∧ s.job.target = some 2 ∧ ∃ t, step s = .next t := by
  refine ⟨fun t h _ => ?_, by decide +kernel, rfl, _, rfl⟩
  cases h
  exact ⟨by decide +kernel, fun _ => by decide +kernel⟩

end Sys2Proof.Tests
end

section
/-! The cold start and the machine after reset. -/

namespace Sys2Proof.Proofs

open Sys2Proof.Machine Sys2Proof.Safety

/-- Settles O2: a cold start puts the cold device in place, whose every element is read off block by block. -/
theorem coldStartValues : Obligations.ColdStartValues := by
  intro bay budget s
  refine ⟨{ s with toDevice := Device.cold bay budget }, rfl, rfl, ?link, ?view, ?power, fun _ => rfl, ?lanes,
    ?engine, ?causes, ?job, rfl, rfl⟩
  case link => exact ⟨rfl, rfl, rfl, (Nat.zero_add 240000).symm, rfl, rfl, rfl, rfl, rfl, rfl, rfl, rfl⟩
  case view =>
    refine ⟨fun b => ?_, rfl, rfl, rfl, rfl, fun e he => ?_⟩
    · simp [Device.cold, PeerView.cold, Peer.absent, Config.silentLimit]
    · have h : e = RingEntry.empty := List.eq_of_mem_replicate he
      exact h ▸ ⟨rfl, rfl⟩
  case power =>
    have rails : ∀ r : RailId, (Device.cold bay budget).power.rails[r] = ⟨0, false, 0, none, false⟩ := by
      simp [Device.cold, Power.cold]
    have windows : ∀ r : RailId, (Device.cold bay budget).power.settings.windows[r] = ⟨0, 16383⟩ := by
      simp [Device.cold, Power.cold, Config.fullScale]
    exact ⟨rfl, rfl, rfl, rfl, rfl, rails, rfl, rfl, rfl, rfl, rfl, windows, rfl, rfl, rfl, rfl, rfl⟩
  case lanes =>
    intro i
    constructor
    · simp [lane, Device.cold, Lane.cold]
    · simp [capture, Device.cold, Capture.cold]
  case engine =>
    have pool : ∀ k : Fin 8, (Device.cold bay budget).engine.pool[k] = .free := by simp [Device.cold, Engine.cold]
    exact ⟨rfl, rfl, pool, rfl, rfl, rfl, rfl, rfl, rfl, rfl⟩
  case causes =>
    have records : ∀ i : Fin 15, CauseUnit.cold.records[i] =
        ⟨false, 0, false, [2, 6, 6, 5, 3, 1, 4, 2, 5, 3, 3, 4, 7, 4, 5].getD i.val 0⟩ := by decide
    exact ⟨rfl, records⟩
  case job =>
    have starts : ∀ i : LaneId, (Device.cold bay budget).job.starts[i] = 0 := by simp [Device.cold, Job.cold]
    exact ⟨rfl, rfl, rfl, rfl, starts, rfl, rfl, rfl, rfl, rfl, rfl, rfl, rfl, rfl, rfl, rfl, rfl, rfl⟩

/-- Settles O60: each invariant is a closed fact about the reset state; with power OFF and no cycle target the rise and
the target ask nothing. -/
theorem resetMeetsInvariants : Obligations.ResetMeetsInvariants := by
  have rise : RiseInv State.reset.toDevice := fun h => absurd h (by decide)
  have target : TargetInv State.reset.job := nofun
  have window : WindowInv State.reset.toDevice := ⟨by decide, nofun, by decide⟩
  exact ⟨patternWf_reset, by decide, by decide, by decide, by decide, by decide, by decide, by decide, by decide,
    by decide +kernel, by decide, window, rise, by decide, target⟩

end Sys2Proof.Proofs
end


section
/-! The header's check byte (R10, R194, R195). Every check is an exclusive or of bits, so what a receiver makes of a
header with some bits flipped depends on the flipped bits alone, and there are few of those. -/

namespace Sys2Proof.Machine

/-! ### The checks are linear -/

theorem foldl_xor_init (a : Bool) (bs : List Bool) : bs.foldl Bool.xor a = Bool.xor a (xorAll bs) := by
  unfold xorAll
  induction bs generalizing a with
  | nil => simp
  | cons b bs ih => rw [List.foldl_cons, List.foldl_cons, ih, ih (Bool.xor false b)]; simp

theorem xorAll_cons (b : Bool) (bs : List Bool) : xorAll (b :: bs) = Bool.xor b (xorAll bs) := by
  simpa [xorAll] using foldl_xor_init b bs

theorem xorAll_map_xor {α : Type} (l : List α) (f g : α → Bool) :
    xorAll (l.map fun a => Bool.xor (f a) (g a)) = Bool.xor (xorAll (l.map f)) (xorAll (l.map g)) := by
  induction l with
  | nil => rfl
  | cons a l ih =>
    simp only [List.map_cons, xorAll_cons, ih]
    cases f a <;> cases g a <;> simp

theorem headerCheck_xor (d e : HeaderData) (k : Nat) :
    headerCheck (d ^^^ e) k = Bool.xor (headerCheck d k) (headerCheck e k) := by
  simp only [headerCheck, BitVec.getLsbD_xor, Bool.and_xor_distrib_right]
  exact xorAll_map_xor _ _ _

theorem headerParity_xor (d e : HeaderData) :
    headerParity (d ^^^ e) = Bool.xor (headerParity d) (headerParity e) := by
  rw [headerParity, show (d ^^^ e).getLsbD = fun i => Bool.xor (d.getLsbD i) (e.getLsbD i) from
    funext fun _ => BitVec.getLsbD_xor]
  exact xorAll_map_xor _ _ _

theorem checksParity_xor (b c : BitVec 5) :
    checksParity (b ^^^ c) = Bool.xor (checksParity b) (checksParity c) := by
  rw [checksParity, show (b ^^^ c).getLsbD = fun i => Bool.xor (b.getLsbD i) (c.getLsbD i) from
    funext fun _ => BitVec.getLsbD_xor]
  exact xorAll_map_xor _ _ _

/-- A number made of five bits has those bits. -/
theorem testBit_sum_of_bits (b : Fin 5 → Bool) (k : Fin 5) :
    (BitVec.ofNat 5 (0 + (if b 0 then 2 ^ 0 else 0) + (if b 1 then 2 ^ 1 else 0) + (if b 2 then 2 ^ 2 else 0) +
      (if b 3 then 2 ^ 3 else 0) + if b 4 then 2 ^ 4 else 0)).getLsbD k = b k := by
  have closed : ∀ (b0 b1 b2 b3 b4 : Bool) (k : Fin 5),
      (BitVec.ofNat 5 (0 + (if b0 then 2 ^ 0 else 0) + (if b1 then 2 ^ 1 else 0) + (if b2 then 2 ^ 2 else 0) +
        (if b3 then 2 ^ 3 else 0) + if b4 then 2 ^ 4 else 0)).getLsbD k = #v[b0, b1, b2, b3, b4][k] := by
    decide
  rw [closed]
  fin_cases k <;> rfl

/-- Bit k of the check bits is Ck (R195). -/
theorem getLsbD_headerChecks (d : HeaderData) (k : Fin 5) : (headerChecks d).getLsbD k = headerCheck d k :=
  testBit_sum_of_bits (fun k => headerCheck d k) k

theorem headerChecks_xor (d e : HeaderData) : headerChecks (d ^^^ e) = headerChecks d ^^^ headerChecks e := by
  refine BitVec.eq_of_getLsbD_eq fun k hk => ?_
  have bit := fun x : HeaderData => getLsbD_headerChecks x ⟨k, hk⟩
  rw [BitVec.getLsbD_xor, bit, bit, bit, headerCheck_xor]

/-! ### The check byte as sent, and the flips of a header -/

theorem setWidth_checkByte (d : HeaderData) : (checkByte d).setWidth 5 = headerChecks d := by
  refine BitVec.eq_of_getLsbD_eq fun k hk => ?_
  have h5 : k ≠ 5 := by omega
  cases h : headerOverall d <;>
    simp [checkByte, bitIf, h, hk]

theorem getLsbD_five_checkByte (d : HeaderData) : (checkByte d).getLsbD 5 = headerOverall d := by
  cases h : headerOverall d <;> simp [checkByte, bitIf, h]

/-- The syndrome and the overall result that some flipped bits give, whatever the data: the check bits of the flipped
data bits with the flipped check bits, and whether the flips are odd in number. -/
def flipSyndrome (e : HeaderData) (c : Byte) : BitVec 5 := headerChecks e ^^^ c.setWidth 5

def flipOverall (e : HeaderData) (c : Byte) : Bool :=
  Bool.xor (headerParity e) (Bool.xor (checksParity (c.setWidth 5)) (c.getLsbD 5))

theorem syndrome_flipped (d e : HeaderData) (c : Byte) :
    syndrome (d ^^^ e) (checkByte d ^^^ c) = flipSyndrome e c := by
  rw [syndrome, BitVec.setWidth_xor, headerChecks_xor, setWidth_checkByte, flipSyndrome]
  rw [BitVec.xor_comm (headerChecks d), BitVec.xor_assoc, ← BitVec.xor_assoc (headerChecks d), BitVec.xor_self,
    BitVec.zero_xor]

theorem overallResult_flipped (d e : HeaderData) (c : Byte) :
    overallResult (d ^^^ e) (checkByte d ^^^ c) = flipOverall e c := by
  rw [overallResult, BitVec.setWidth_xor, headerParity_xor, setWidth_checkByte, checksParity_xor,
    BitVec.getLsbD_xor, getLsbD_five_checkByte, headerOverall, flipOverall]
  cases headerParity d <;> cases checksParity (headerChecks d) <;> simp

/-! ### What a receiver makes of a flipped header (the table of R10) -/

/-- No flip in the parity and none in the syndrome: the header is used as received. -/
theorem decodeHeader_clean {d e : HeaderData} {c : Byte} (ho : flipOverall e c = false)
    (hs : (flipSyndrome e c).toNat = 0) : decodeHeader (d ^^^ e) (checkByte d ^^^ c) = .clean (d ^^^ e) := by
  simp [decodeHeader, syndrome_flipped, overallResult_flipped, ho, hs]

/-- An even number of flips that the syndrome sees is uncorrectable. -/
theorem decodeHeader_uncorrectable {d e : HeaderData} {c : Byte} (ho : flipOverall e c = false)
    (hs : (flipSyndrome e c).toNat ≠ 0) : decodeHeader (d ^^^ e) (checkByte d ^^^ c) = .uncorrectable := by
  simp [decodeHeader, syndrome_flipped, overallResult_flipped, ho, hs]

/-- An odd number of flips whose syndrome names a check bit, or nothing, leaves the data as received. -/
theorem decodeHeader_checkBit {d e : HeaderData} {c : Byte} (ho : flipOverall e c = true)
    (hs : (flipSyndrome e c).toNat ∈ [0, 1, 2, 4, 8, 16]) :
    decodeHeader (d ^^^ e) (checkByte d ^^^ c) = .corrected (d ^^^ e) := by
  simp only [List.mem_cons, List.not_mem_nil, or_false] at hs
  simp [decodeHeader, syndrome_flipped, overallResult_flipped, ho, hs]

/-- An odd number of flips whose syndrome is the position of a data bit flips that bit back. -/
theorem decodeHeader_dataBit {d e : HeaderData} {c : Byte} {k : Nat} (ho : flipOverall e c = true)
    (hs : (flipSyndrome e c).toNat ∉ [0, 1, 2, 4, 8, 16]) (hk : dataBitAt (flipSyndrome e c).toNat = some k) :
    decodeHeader (d ^^^ e) (checkByte d ^^^ c) = .corrected (d ^^^ e ^^^ (1#24 <<< k)) := by
  simp only [List.mem_cons, List.not_mem_nil, or_false] at hs
  simp [decodeHeader, syndrome_flipped, overallResult_flipped, ho, hs, hk]

/-- A header as sent decodes clean (R10, R195). -/
theorem decodeHeader_checkByte (d : HeaderData) : decodeHeader d (checkByte d) = .clean d := by
  have h := decodeHeader_clean (d := d) (e := 0#24) (c := 0#8) (by decide) (by decide)
  rwa [BitVec.xor_zero, BitVec.xor_zero] at h

/-! ### The flips of one bit and of two -/

/-- The check bits of one data bit spell its position, and its parity is odd (R195). -/
theorem headerChecks_single : ∀ j < 24, headerChecks (1#24 <<< j) = BitVec.ofNat 5 (headerPosition j) ∧
    headerParity (1#24 <<< j) = true := by decide +kernel

/-- The syndrome of one data flip, from its position. -/
theorem flipSyndrome_single {j : Nat} (hj : j < 24) (c : Byte) :
    flipSyndrome (1#24 <<< j) c = BitVec.ofNat 5 (headerPosition j) ^^^ c.setWidth 5 := by
  rw [flipSyndrome, (headerChecks_single j hj).1]

theorem flipSyndrome_pair {j k : Nat} (hj : j < 24) (hk : k < 24) :
    flipSyndrome (1#24 <<< j ^^^ 1#24 <<< k) 0#8 =
      BitVec.ofNat 5 (headerPosition j) ^^^ BitVec.ofNat 5 (headerPosition k) := by
  rw [flipSyndrome, headerChecks_xor, (headerChecks_single j hj).1, (headerChecks_single k hk).1]
  exact BitVec.xor_zero

theorem flipOverall_single {j : Nat} (hj : j < 24) (c : Byte) :
    flipOverall (1#24 <<< j) c = !Bool.xor (checksParity (c.setWidth 5)) (c.getLsbD 5) := by
  rw [flipOverall, (headerChecks_single j hj).2, Bool.true_xor]

theorem flips_oneData {j : Nat} (hj : j < 24) : flipOverall (1#24 <<< j) 0#8 = true ∧
    (flipSyndrome (1#24 <<< j) 0#8).toNat ∉ [0, 1, 2, 4, 8, 16] ∧
    dataBitAt (flipSyndrome (1#24 <<< j) 0#8).toNat = some j := by
  have closed : ∀ j < 24, (BitVec.ofNat 5 (headerPosition j) ^^^ (0#8).setWidth 5).toNat ∉ [0, 1, 2, 4, 8, 16] ∧
      dataBitAt (BitVec.ofNat 5 (headerPosition j) ^^^ (0#8).setWidth 5).toNat = some j := by decide +kernel
  rw [flipOverall_single hj, flipSyndrome_single hj]
  exact ⟨by decide, closed j hj⟩

theorem flips_oneCheck : ∀ j < 6, flipOverall 0#24 (1#8 <<< j) = true ∧
    (flipSyndrome 0#24 (1#8 <<< j)).toNat ∈ [0, 1, 2, 4, 8, 16] := by decide +kernel

theorem flips_twoData {j k : Nat} (hjk : j < k) (hk : k < 24) :
    flipOverall (1#24 <<< j ^^^ 1#24 <<< k) 0#8 = false ∧
      (flipSyndrome (1#24 <<< j ^^^ 1#24 <<< k) 0#8).toNat ≠ 0 := by
  have hj : j < 24 := by omega
  have closed : ∀ k < 24, ∀ j < k,
      (BitVec.ofNat 5 (headerPosition j) ^^^ BitVec.ofNat 5 (headerPosition k)).toNat ≠ 0 := by decide +kernel
  refine ⟨?_, flipSyndrome_pair hj hk ▸ closed k hk j hjk⟩
  rw [flipOverall, headerParity_xor, (headerChecks_single j hj).2, (headerChecks_single k hk).2]
  decide

theorem flips_dataAndCheck {j k : Nat} (hj : j < 24) (hk : k < 6) :
    flipOverall (1#24 <<< j) (1#8 <<< k) = false ∧ (flipSyndrome (1#24 <<< j) (1#8 <<< k)).toNat ≠ 0 := by
  have odd : ∀ k < 6, Bool.xor (checksParity ((1#8 <<< k).setWidth 5)) ((1#8 <<< k).getLsbD 5) = true := by decide
  have closed : ∀ j < 24, ∀ k < 6,
      (BitVec.ofNat 5 (headerPosition j) ^^^ (1#8 <<< k).setWidth 5).toNat ≠ 0 := by decide +kernel
  rw [flipOverall_single hj, flipSyndrome_single hj, odd k hk]
  exact ⟨rfl, closed j hj k hk⟩

theorem flips_twoCheck {j k : Nat} (hjk : j < k) (hk : k < 6) :
    flipOverall 0#24 (1#8 <<< j ^^^ 1#8 <<< k) = false ∧
      (flipSyndrome 0#24 (1#8 <<< j ^^^ 1#8 <<< k)).toNat ≠ 0 := by
  have closed : ∀ k < 6, ∀ j < k, flipOverall 0#24 (1#8 <<< j ^^^ 1#8 <<< k) = false ∧
      (flipSyndrome 0#24 (1#8 <<< j ^^^ 1#8 <<< k)).toNat ≠ 0 := by decide +kernel
  exact closed k hk j hjk

/-- Bits 6 and 7 of the check byte are not looked at (R10). -/
theorem decodeHeader_and_mask (d : HeaderData) (check : Byte) :
    decodeHeader d (check &&& 0x3F#8) = decodeHeader d check := by
  have closed : ∀ c : Byte, (c &&& 0x3F#8).setWidth 5 = c.setWidth 5 ∧ (c &&& 0x3F#8).getLsbD 5 = c.getLsbD 5 := by
    decide +kernel
  obtain ⟨low, overall⟩ := closed check
  rw [decodeHeader, decodeHeader, syndrome, syndrome, overallResult, overallResult, low, overall]

end Sys2Proof.Machine

namespace Sys2Proof.Proofs

open Sys2Proof.Machine

/-- Settles O15: the flips of one bit and of two are finitely many, and the verdict depends on the flips alone. -/
theorem headerCorrectsOneDetectsTwo : Obligations.HeaderCorrectsOneDetectsTwo := by
  refine ⟨decodeHeader_checkByte, fun d j hj => ?data, fun d j hj => ?check, fun d j k hjk hk => ?twoData,
    fun d j k hj hk => ?both, fun d j k hjk hk => ?twoCheck, decodeHeader_and_mask⟩
  case data =>
    obtain ⟨overall, notCheck, position⟩ := flips_oneData hj
    have h := decodeHeader_dataBit (d := d) overall notCheck position
    rwa [BitVec.xor_zero, BitVec.xor_assoc, BitVec.xor_self, BitVec.xor_zero] at h
  case check =>
    obtain ⟨overall, check⟩ := flips_oneCheck j hj
    have h := decodeHeader_checkBit (d := d) overall check
    rwa [BitVec.xor_zero] at h
  case twoData =>
    obtain ⟨overall, seen⟩ := flips_twoData hjk hk
    have h := decodeHeader_uncorrectable (d := d) overall seen
    rwa [BitVec.xor_zero, ← BitVec.xor_assoc] at h
  case both =>
    obtain ⟨overall, seen⟩ := flips_dataAndCheck hj hk
    exact decodeHeader_uncorrectable overall seen
  case twoCheck =>
    obtain ⟨overall, seen⟩ := flips_twoCheck hjk hk
    have h := decodeHeader_uncorrectable (d := d) overall seen
    rwa [BitVec.xor_zero, ← BitVec.xor_assoc] at h

end Sys2Proof.Proofs
end


section
/-! Reception (R8 to R15): what a discard, a header, a bad message and the end of a slot do to a state. -/

namespace Sys2Proof.Machine

open Sys2Proof.Safety

variable (d : Device) (s : State) (k : StationId)

/-! ### The slot received in -/

theorem receivingSlot_eq_some_iff : receivingSlot d = some k ↔ d.link.slot = some k ∧ ownSlot d ≠ some k := by
  unfold receivingSlot
  cases hs : d.link.slot with
  | none => simp
  | some c =>
    by_cases own : ownSlot d = some c
    · simp only [own, if_true, Option.some.injEq, reduceCtorEq, false_iff]
      rintro ⟨rfl, h⟩
      exact h rfl
    · simp only [own, if_false, Option.some.injEq]
      exact ⟨fun h => ⟨h, h ▸ own⟩, fun h => h.1⟩

theorem receivingSlot_of_receives {s : State} {k : StationId} (h : receives s k) :
    receivingSlot s.toDevice = some k :=
  (receivingSlot_eq_some_iff _ _).2 h

theorem receives_of_receivingSlot {s : State} {k : StationId} (h : receivingSlot s.toDevice = some k) :
    receives s k :=
  (receivingSlot_eq_some_iff _ _).1 h

/-- With no slot received, the receiving slot is none. -/
theorem receivingSlot_eq_none {s : State} (h : ∀ k, ¬receives s k) : receivingSlot s.toDevice = none := by
  cases hr : receivingSlot s.toDevice with
  | none => rfl
  | some k => exact absurd (receives_of_receivingSlot hr) (h k)

/-! ### Slot outcomes (R27) -/

theorem heardNothing_eq_unheard (p : Peer) : heardNothing p = unheard p := by
  unfold heardNothing unheard Config.silentLimit
  by_cases seven : p.silent = 7
  · cases present : p.present <;> simp [seven, Peer.absent, Config.silentLimit]
  · by_cases eight : 8 ≤ p.silent
    · simp [eight, seven, show ¬p.silent < 8 by omega]
    · simp [eight, seven, show p.silent < 8 by omega, show ¬p.silent + 1 = 8 by omega]

/-- What a place of a vector holds after a place is replaced. -/
theorem getElem_set_fin {n : Nat} {α : Type} (v : Vector α n) (k b : Fin n) (x : α) :
    (v.set k.val x k.isLt)[b.val] = if b = k then x else v[b.val] := by
  simp only [Vector.getElem_set, Fin.ext_iff, eq_comm]

/-- A slot's outcome touches the peer view alone: its peer records, and its notes where it is blind. -/
theorem goodOutcome_eq : goodOutcome k d = { d with
    view := { d.view with peers := (goodOutcome k d).view.peers } } := by
  unfold goodOutcome
  split_ifs <;> rfl

theorem silentOutcome_eq : silentOutcome k d = { d with
    view := { d.view with peers := (silentOutcome k d).view.peers } } := by
  unfold silentOutcome
  split_ifs <;> rfl

theorem blindOutcome_eq : blindOutcome k d = { d with
    view := { d.view with peers := (blindOutcome k d).view.peers, notes := (blindOutcome k d).view.notes } } := by
  unfold blindOutcome
  split_ifs <;> rfl

theorem goodOutcome_peers (b : StationId) : (goodOutcome k d).view.peers[b] =
    if k ≠ 0 ∧ b = k then { d.view.peers[k] with present := true, silent := 0 } else d.view.peers[b] := by
  unfold goodOutcome
  by_cases h0 : k = 0 <;> simp [h0, heardGood, peer, getElem_set_fin]

theorem silentOutcome_peers (b : StationId) : (silentOutcome k d).view.peers[b] =
    if k ≠ 0 ∧ b = k then unheard d.view.peers[k] else d.view.peers[b] := by
  unfold silentOutcome
  by_cases h0 : k = 0 <;> simp [h0, heardNothing_eq_unheard, peer, getElem_set_fin]

theorem blindOutcome_peers (b : StationId) : (blindOutcome k d).view.peers[b] =
    if k ≠ 0 ∧ b = k then unheard d.view.peers[k] else d.view.peers[b] := by
  unfold blindOutcome
  by_cases h0 : k = 0 <;> simp [h0, heardNothing_eq_unheard, peer, setNote, getElem_set_fin]

theorem blindOutcome_notes (b : StationId) : (blindOutcome k d).view.notes[b] =
    if k ≠ 0 ∧ b = k then .blind else d.view.notes[b] := by
  unfold blindOutcome
  by_cases h0 : k = 0 <;> simp [h0, setPeer, getElem_set_fin]

/-- A blind outcome of slot 0, which is not a peer's, changes nothing. -/
theorem blindOutcome_zero : blindOutcome 0 d = d := rfl

/-! ### A discard (R11, R12, R15, R27) -/

theorem discard_link (e : ErrorKind) : (discard e k d).link =
    { d.link with errors := d.link.errors ||| e.single, reception := .done } := by
  rw [discard, blindOutcome_eq]
  rfl

theorem discard_view (e : ErrorKind) : (discard e k d).view = (blindOutcome k d).view := by
  unfold discard blindOutcome
  split_ifs <;> rfl

/-- A discard touches the link controller and the peer view alone. -/
theorem discard_eq (e : ErrorKind) : discard e k d = { d with
    link := (discard e k d).link, view := (discard e k d).view } := by
  rw [discard, blindOutcome_eq]
  rfl

/-- A discard is the discard of Safety.lean. -/
theorem discarded_discard (e : ErrorKind) : discarded s { s with toDevice := discard e k s.toDevice } k e.single := by
  refine ⟨discard_link _ _ e, ?_, fun b hb => ⟨?_, ?_⟩, fun h0 => ?_, fun h0 => ⟨?_, ?_⟩⟩ <;>
    simp only [discard_view]
  · rw [blindOutcome_eq]
  · rw [blindOutcome_peers, if_neg (fun h => hb h.2)]
  · rw [blindOutcome_notes, if_neg (fun h => hb h.2)]
  · rw [h0, blindOutcome_zero]
  · rw [blindOutcome_peers, if_pos ⟨h0, rfl⟩]
  · rw [blindOutcome_notes, if_pos ⟨h0, rfl⟩]

/-! ### A header (R10, R11) -/

theorem headerByte_zero (h : HeaderData) : headerByte h 0 = h.setWidth 8 := by simp [headerByte]
theorem headerByte_one (h : HeaderData) : headerByte h 1 = (h >>> 8).setWidth 8 := rfl
theorem headerByte_two (h : HeaderData) : headerByte h 2 = (h >>> 16).setWidth 8 := rfl

theorem useHeader_of_fault {k : StationId} {h : HeaderData} {e : ErrorKind} (hf : headerFault k h = some e) :
    useHeader k h d = discard e k d := by
  unfold useHeader
  rw [hf]

theorem useHeader_of_empty {k : StationId} {h : HeaderData} (hf : headerFault k h = none)
    (h0 : (headerByte h 1).toNat = 0) : useHeader k h d = goodOutcome k (setReception .done d) := by
  unfold useHeader
  rw [hf]
  exact if_pos h0

theorem useHeader_of_payload {k : StationId} {h : HeaderData} (hf : headerFault k h = none)
    (h0 : (headerByte h 1).toNat ≠ 0) :
    useHeader k h d = setReception (.awaiting (headerByte h 1).toNat (headerByte h 2).toNat) d := by
  unfold useHeader
  rw [hf]
  exact if_neg h0

/-- A usable header touches the link controller and the peer view alone. -/
theorem useHeader_eq (h : HeaderData) : useHeader k h d = { d with
    link := (useHeader k h d).link, view := (useHeader k h d).view } := by
  cases hf : headerFault k h with
  | some e =>
    rw [useHeader_of_fault d hf]
    exact discard_eq d k e
  | none =>
    by_cases h0 : (headerByte h 1).toNat = 0
    · rw [useHeader_of_empty d hf h0, goodOutcome_eq]
      rfl
    · rw [useHeader_of_payload d hf h0]
      rfl

/-- The fields of a usable header are judged in the order of R11. -/
theorem headerTaken_useHeader (h : HeaderData) :
    headerTaken s { s with toDevice := useHeader k h s.toDevice } k h := by
  unfold headerTaken
  dsimp only
  rw [← headerByte_zero h, ← headerByte_one h, ← headerByte_two h]
  have drop : ∀ e, headerFault k h = some e →
      discarded s { s with toDevice := useHeader k h s.toDevice } k e.single := fun e hf => by
    rw [useHeader_of_fault _ hf]
    exact discarded_discard s k e
  refine ⟨?frame, fun sender => ?mismatch, fun sender long => ?overlong, fun sender short bad => ?unknown,
    fun sender format none count => ?empty, fun sender format some short => ?payload⟩
  case frame => exact congrArg (fun x => { s with toDevice := x }) (useHeader_eq s.toDevice k h)
  case mismatch => exact drop .slotMismatch (by simp [headerFault, sender])
  case overlong => exact drop .overlong (by simp [headerFault, sender, Config.maxPayload, long])
  case unknown =>
    refine drop .unknownItem ?_
    rcases bad with format | ⟨none, count⟩
    · simp [headerFault, sender, Config.maxPayload, Nat.not_lt.2 short, format]
    · simp [headerFault, sender, Config.maxPayload, none, count]
  case empty =>
    rw [useHeader_of_empty s.toDevice (by simp [headerFault, sender, Config.maxPayload, format, none, count]) none]
    refine ⟨?_, ?_, fun h0 => ?_, fun b hb => ?_, fun h0 => ?_⟩
    · rw [goodOutcome_eq]; rfl
    · rw [goodOutcome_eq]; rfl
    · rw [h0]; rfl
    · exact (goodOutcome_peers _ _ _).trans (if_neg fun h => hb h.2)
    · exact (goodOutcome_peers _ _ _).trans (if_pos ⟨h0, rfl⟩)
  case payload =>
    rw [useHeader_of_payload s.toDevice (by
      simp [headerFault, sender, Config.maxPayload, Nat.not_lt.2 short, format, Nat.ne_of_gt some])
      (Nat.ne_of_gt some)]
    exact ⟨rfl, rfl⟩

/-- The four header bytes give back the data bits that they were made of (R194). -/
theorem headerData_headerByte (h : HeaderData) :
    headerData (headerByte h 0) (headerByte h 1) (headerByte h 2) = h := by
  refine BitVec.eq_of_getLsbD_eq fun i hi => ?_
  simp only [headerData, headerByte, BitVec.getLsbD_or, BitVec.getLsbD_setWidth, BitVec.getLsbD_shiftLeft,
    BitVec.getLsbD_ushiftRight]
  rcases lt_or_ge i 8 with h8 | h8
  · simp [hi, h8, show i < 16 by omega]
  · rcases lt_or_ge i 16 with h16 | h16
    · simp [hi, h16, Nat.not_lt.2 h8, Nat.add_sub_cancel' h8, show i - 8 < 8 by omega, show i - 8 < 24 by omega]
    · simp [hi, Nat.not_lt.2 h8, Nat.not_lt.2 h16, Nat.add_sub_cancel' h16, show ¬i - 8 < 8 by omega,
        show i - 16 < 8 by omega, show i - 16 < 24 by omega]

/-- Header bytes 0 to 2 are the bytes that the header data was made of (R194). -/
theorem headerByte_headerData (b0 b1 b2 : Byte) :
    headerByte (headerData b0 b1 b2) 0 = b0 ∧ headerByte (headerData b0 b1 b2) 1 = b1 ∧
      headerByte (headerData b0 b1 b2) 2 = b2 := by
  refine ⟨?_, ?_, ?_⟩ <;> refine BitVec.eq_of_getLsbD_eq fun i hi => ?_ <;>
    simp only [headerData, headerByte, BitVec.getLsbD_or, BitVec.getLsbD_setWidth, BitVec.getLsbD_shiftLeft,
      BitVec.getLsbD_ushiftRight]
  · simp [hi, show i < 24 by omega, show i < 16 by omega]
  · simp [hi, show i < 24 by omega, show 8 + i < 24 by omega, show 8 + i < 16 by omega]
  · simp [hi, show i < 24 by omega, show 16 + i < 24 by omega, show ¬16 + i < 16 by omega,
      BitVec.getLsbD_of_ge b0 (16 + i) (by omega), BitVec.getLsbD_of_ge b1 (16 + i - 8) (by omega)]

/-! ### The header event (R8, R10, R12) -/

theorem headerEvent_of_receives {s : State} {k : StationId} (b0 b1 b2 b3 : Byte) (hr : receives s k)
    (hi : s.link.reception = .idle) :
    exec (.headerReceived b0 b1 b2 b3) s = .next { s with toDevice := receiveHeader k b0 b1 b2 b3 s.toDevice } := by
  change Host.Outcome.next { s with toDevice := headerEvent b0 b1 b2 b3 s.toDevice } = _
  rw [headerEvent, receivingSlot_of_receives hr, hi]

theorem headerEvent_of_not {s : State} (b0 b1 b2 b3 : Byte)
    (h : (∀ k, ¬receives s k) ∨ s.link.reception ≠ .idle) : exec (.headerReceived b0 b1 b2 b3) s = .next s := by
  change Host.Outcome.next { s with toDevice := headerEvent b0 b1 b2 b3 s.toDevice } = _
  have nothing : headerEvent b0 b1 b2 b3 s.toDevice = s.toDevice := by
    unfold headerEvent
    rcases h with none | busy
    · rw [receivingSlot_eq_none none]
    · cases hr : s.link.reception with
      | idle => exact absurd hr busy
      | awaiting n c => cases receivingSlot s.toDevice <;> rfl
      | done => cases receivingSlot s.toDevice <;> rfl
  rw [nothing]

theorem toNat_byteOf {n : Nat} (h : n < 256) : (byteOf n).toNat = n := by
  rw [byteOf, BitVec.toNat_ofNat]
  exact Nat.mod_eq_of_lt h

/-- A header as a station sends it is used as received, whatever slot it arrives in (R10, R195). -/
theorem receiveHeader_sent (h : HeaderData) :
    receiveHeader k (headerByte h 0) (headerByte h 1) (headerByte h 2) (checkByte h) d = useHeader k h d := by
  unfold receiveHeader
  rw [headerData_headerByte, decodeHeader_checkByte]

theorem receiveHeader_headerBytes (sender length count : Nat) :
    let h : List Byte := headerBytes sender length count
    receiveHeader k (byteAt h 0) (byteAt h 1) (byteAt h 2) (byteAt h 3) d =
      useHeader k (headerData (byteOf (16 * sender + 1)) (byteOf length) (byteOf count)) d :=
  receiveHeader_sent d k (headerData (byteOf (16 * sender + 1)) (byteOf length) (byteOf count))

/-- The fields of a header that a station sends (R194). -/
theorem headerFields_sent {sender length count : Nat} (hs : sender < 16) (hl : length < 256) (hc : count < 256) :
    let h := headerData (byteOf (16 * sender + 1)) (byteOf length) (byteOf count)
    (headerByte h 0).toNat / 16 = sender ∧ (headerByte h 0).toNat % 16 = 1 ∧ (headerByte h 1).toNat = length ∧
      (headerByte h 2).toNat = count := by
  obtain ⟨first, second, third⟩ := headerByte_headerData (byteOf (16 * sender + 1)) (byteOf length) (byteOf count)
  dsimp only
  rw [first, second, third, toNat_byteOf (by omega : 16 * sender + 1 < 256), toNat_byteOf hl, toNat_byteOf hc]
  omega

/-- A right header of the slot's sender passes every field test (R11). -/
theorem headerFault_sent {k : StationId} {length count : Nat} (h1 : 1 ≤ length) (h80 : length ≤ 80) (hc : count < 256) :
    headerFault k (headerData (byteOf (16 * k.val + 1)) (byteOf length) (byteOf count)) = none := by
  obtain ⟨sender, format, bytes, items⟩ := headerFields_sent k.isLt (by omega : length < 256) hc
  simp [headerFault, sender, format, bytes, Config.maxPayload, Nat.not_lt.2 h80, Nat.ne_of_gt h1]

end Sys2Proof.Machine

namespace Sys2Proof.Proofs

open Sys2Proof.Machine Sys2Proof.Safety

/-- Settles O7: the verdict of the four bytes picks the outcome, and a header as sent decodes clean. -/
theorem headerIsJudged : Obligations.HeaderIsJudged := by
  refine ⟨fun s k b0 b1 b2 b3 hr hi => ?judged, fun s k length count hr hi h1 h80 hc => ?right,
    fun s k sender length count hr hi hne hl hc => ?mismatch, fun s b0 b1 b2 b3 h => headerEvent_of_not b0 b1 b2 b3 h⟩
  case judged =>
    refine ⟨_, headerEvent_of_receives b0 b1 b2 b3 hr hi, ?_⟩
    unfold receiveHeader
    cases decodeHeader (headerData b0 b1 b2) b3 with
    | clean h => exact headerTaken_useHeader s k h
    | corrected h =>
      exact headerTaken_useHeader { s with link := { s.link with errors := s.link.errors ||| 0x1 } } k h
    | uncorrectable =>
      exact ⟨congrArg (fun x => { s with toDevice := x }) (discard_eq s.toDevice k .hdrUncorrectable),
        discarded_discard s k .hdrUncorrectable⟩
  case right =>
    dsimp only
    obtain ⟨-, -, bytes, items⟩ := headerFields_sent k.isLt (by omega : length < 256) hc
    rw [headerEvent_of_receives _ _ _ _ hr hi, receiveHeader_headerBytes,
      useHeader_of_payload _ (headerFault_sent h1 h80 hc) (by omega), bytes, items]
    rfl
  case mismatch =>
    dsimp only
    obtain ⟨from_, -, -, -⟩ := headerFields_sent sender.isLt hl hc
    have fault : headerFault k (headerData (byteOf (16 * sender.val + 1)) (byteOf length) (byteOf count)) =
        some .slotMismatch := by
      simp [headerFault, from_, Fin.val_inj, hne]
    refine ⟨_, headerEvent_of_receives _ _ _ _ hr hi, ?_⟩
    rw [receiveHeader_headerBytes, useHeader_of_fault _ fault]
    exact ⟨congrArg (fun x => { s with toDevice := x }) (discard_eq s.toDevice k .slotMismatch),
      discarded_discard s k .slotMismatch⟩

end Sys2Proof.Proofs
end


section
/-! Bad messages (R13, R14), the end of a slot without a good one (R12, R15), and the pulse line without a mark (R2 to
R7). -/

namespace Sys2Proof.Machine

open Sys2Proof.Safety

variable (d : Device) (s : State) (k : StationId)

/-! ### The message event (R11 to R14) -/

theorem messageEvent_of_awaiting {s : State} {k : StationId} {length count : Nat} {bytes : List Byte}
    (view : MessageView) (hr : receives s k) (ha : s.link.reception = .awaiting length count)
    (hb : length + 2 ≤ bytes.length) :
    exec (.messageComplete bytes view) s = .next { s with
      toDevice := completeMessage k length count bytes view.between { s.toDevice with pins := view.pins } } := by
  change Host.Outcome.next { s with toDevice := messageEvent bytes view s.toDevice } = _
  rw [messageEvent, receivingSlot_of_receives hr, ha]
  dsimp only
  rw [if_pos hb]

theorem messageEvent_of_not {s : State} {bytes : List Byte} (view : MessageView)
    (h : ∀ (k : StationId) (length count : Nat), receives s k → s.link.reception = .awaiting length count →
      bytes.length < length + 2) : exec (.messageComplete bytes view) s = .next s := by
  change Host.Outcome.next { s with toDevice := messageEvent bytes view s.toDevice } = _
  have nothing : messageEvent bytes view s.toDevice = s.toDevice := by
    unfold messageEvent
    cases hr : receivingSlot s.toDevice with
    | none => rfl
    | some k =>
      cases ha : s.link.reception with
      | idle => rfl
      | done => rfl
      | awaiting length count => exact if_neg (Nat.not_le.2 (h k length count (receives_of_receivingSlot hr) ha))
  rw [nothing]

/-- Two bytes are the ones that a word is sent as exactly where they spell it (R193). -/
theorem be16_eq_pair_iff (w : Word) (a b : Byte) :
    be16 w.toNat = [a, b] ↔ w = BitVec.ofNat 16 (a.toNat * 256 + b.toNat) := by
  have ha := a.isLt
  have hb := b.isLt
  have hw := w.isLt
  simp only [be16, byteOf, List.cons.injEq, and_true, ← BitVec.toNat_inj, BitVec.toNat_ofNat]
  omega

/-- The received checksum agrees with a word exactly where its two bytes are those of the word (R13, R194). -/
theorem be16_eq_drop_iff (w : Word) {length : Nat} {bytes : List Byte} (hb : bytes.length = length + 2) :
    be16 w.toNat = bytes.drop length ↔ w = checksumOf bytes length := by
  have pair : bytes.drop length = [byteAt bytes length, byteAt bytes (length + 1)] := by
    rw [List.drop_eq_getElem_cons (by omega), List.drop_eq_getElem_cons (by omega), List.drop_eq_nil_of_le (by omega)]
    simp [byteAt, hb]
  rw [pair, be16_eq_pair_iff]
  rfl

theorem judgeMessage_checksum {k : StationId} {length count : Nat} {bytes : List Byte}
    (hc : crc16 (bytes.take length) ≠ checksumOf bytes length) :
    judgeMessage k length count bytes = .error .checksum := if_pos hc

theorem judgeMessage_unparsed {k : StationId} {length count : Nat} {bytes : List Byte}
    (hc : crc16 (bytes.take length) = checksumOf bytes length)
    (hp : parseItems (decide (k = 0)) count (bytes.take length) = none) :
    judgeMessage k length count bytes = .error .unknownItem := by
  unfold judgeMessage
  rw [if_neg (not_not.2 hc), hp]

theorem judgeMessage_parsed {k : StationId} {length count : Nat} {bytes : List Byte} {items : List Item}
    (hc : crc16 (bytes.take length) = checksumOf bytes length)
    (hp : parseItems (decide (k = 0)) count (bytes.take length) = some items) :
    judgeMessage k length count bytes = .ok items := by
  unfold judgeMessage
  rw [if_neg (not_not.2 hc), hp]

/-- A message that is judged bad is discarded, and touches nothing else but the capture pins it came with. -/
theorem badMessage {s : State} {k : StationId} {length count : Nat} {bytes : List Byte} {e : ErrorKind}
    (view : MessageView) (hr : receives s k) (ha : s.link.reception = .awaiting length count)
    (hb : bytes.length = length + 2) (hj : judgeMessage k length count bytes = .error e) :
    ∃ t, exec (.messageComplete bytes view) s = .next t ∧
      t = { s with link := t.link, view := t.view, pins := view.pins } ∧ discarded s t k e.single := by
  refine ⟨_, messageEvent_of_awaiting view hr ha hb.ge, ?_⟩
  rw [completeMessage, hj]
  have pinned := discarded_discard { s with pins := view.pins } k e
  exact ⟨congrArg (fun x => { s with toDevice := x }) (discard_eq { s.toDevice with pins := view.pins } k e), pinned⟩

/-! ### A message cut short and the end of a slot (R12, R15) -/

theorem truncate_of_receives {s : State} {k : StationId} (hr : receives s k) (hd : s.link.reception ≠ .done) :
    truncate s.toDevice = discard .truncated k s.toDevice := by
  rw [truncate, receivingSlot_of_receives hr]
  cases h : s.link.reception with
  | idle => rfl
  | awaiting n c => rfl
  | done => exact absurd h hd

/-- A slot that ends with a message under way, or with line activity that brought no header, is discarded. -/
theorem endSlot_cut {s : State} {active : Bool} {k : StationId} (hr : receives s k) (hd : s.link.reception ≠ .done)
    (ha : s.link.reception = .idle → active = true) :
    endSlot active s.toDevice = discard .truncated k s.toDevice := by
  rw [endSlot, receivingSlot_of_receives hr]
  cases h : s.link.reception with
  | idle => exact if_pos (ha h)
  | awaiting n c => rfl
  | done => exact absurd h hd

theorem endSlot_silent {s : State} {k : StationId} (hr : receives s k) (hi : s.link.reception = .idle) :
    endSlot false s.toDevice = silentOutcome k (setReception .done s.toDevice) := by
  rw [endSlot, receivingSlot_of_receives hr, hi]
  rfl

/-- The own slot, and a slot whose message is done, have no outcome. -/
theorem endSlot_none {s : State} {active : Bool} (h : (∀ k, ¬receives s k) ∨ s.link.reception = .done) :
    endSlot active s.toDevice = s.toDevice := by
  unfold endSlot
  rcases h with none | done
  · rw [receivingSlot_eq_none none]
  · rw [done]
    cases receivingSlot s.toDevice <;> rfl

/-- The next slot begins where a slot's time has passed (R8). -/
theorem exec_slotEnd {s : State} {k : StationId} (active : Bool) (hs : s.link.slot = some k) :
    exec (.slotEnd active) s = .next { s with
      toDevice := atMoment (s.link.previousMark.getD 0 + (k.val + 1) * Config.slotPeriod)
        (setLink { (endSlot active s.toDevice).link with slot := slotBehind k, reception := .idle }
          (endSlot active s.toDevice)) } := by
  change Host.Outcome.next { s with toDevice := slotEnd active s.toDevice } = _
  rw [slotEnd, hs]
  rfl

/-! ### The pulse line (R2 to R7) -/

/-- A pulse line stuck low raises CADENCE-FAULT, and mutes the link controller (R6). -/
theorem stuckLow_eq : stuckLow d = { raiseCause .cadenceFault d with
    link := mute { d.link with markPulse := false, notices := (raiseCause .cadenceFault d).link.notices } } := by
  rw [stuckLow, raiseCause_link]
  rfl

theorem mute_eq (l : Link) : mute l = { l with
    mode := if l.mode = .normal then .muted else l.mode, flight := if l.mode = .normal then none else l.flight,
    driveUntil := if l.mode = .normal then 0 else l.driveUntil } := by
  unfold mute
  split_ifs <;> rfl

theorem occur_eq_happened (r : CauseRecord) : occur r = happened r := by
  unfold occur happened
  cases r.flag <;> simp

/-- An occurrence of a cause changes the cause unit as R146 says. -/
theorem occurred_raiseCause (c : Cause) : occurred d.causes (raiseCause c d).causes c.index := by
  rw [raiseCause_causes]
  refine ⟨rfl, fun j hj => ?_, ?_⟩
  · exact (getElem_set_fin _ _ _ _).trans (if_neg hj)
  · exact (getElem_set_fin _ _ _ _).trans ((if_pos rfl).trans (occur_eq_happened _))

/-- An occurrence of a cause touches the cause unit and the notice queue alone. -/
theorem raiseCause_eq (c : Cause) : raiseCause c d = { d with
    causes := (raiseCause c d).causes, link := { d.link with notices := (raiseCause c d).link.notices } } := by
  unfold raiseCause offer
  dsimp only
  split_ifs <;> rfl

end Sys2Proof.Machine

namespace Sys2Proof.Proofs

open Sys2Proof.Machine Sys2Proof.Safety

/-- Settles O8: what is judged bad is discarded; the checksum is compared byte for byte. -/
theorem badMessageBlindsSlot : Obligations.BadMessageBlindsSlot := by
  refine ⟨fun s k length count bytes view hr ha hb => ⟨fun hc => ?_, fun hc hp => ?_⟩,
    fun s bytes view h => messageEvent_of_not view h⟩
  · rw [Ne, be16_eq_drop_iff _ hb] at hc
    exact badMessage view hr ha hb (judgeMessage_checksum hc)
  · rw [be16_eq_drop_iff _ hb] at hc
    exact badMessage view hr ha hb (judgeMessage_unparsed hc hp)

/-- Settles O11: the three ends of a slot are a discard, a silent outcome, or none. -/
theorem slotWithoutMessageIsBlindOrSilent : Obligations.SlotWithoutMessageIsBlindOrSilent := by
  have cut : ∀ (s : State) (k : StationId), receives s k → s.link.reception ≠ .done →
      let t : State := { s with toDevice := truncate s.toDevice }
      t = { s with link := t.link, view := t.view } ∧ discarded s t k 0x8 := fun s k hr hd => by
    dsimp only
    rw [truncate_of_receives hr hd]
    exact ⟨congrArg (fun x => { s with toDevice := x }) (discard_eq s.toDevice k .truncated),
      discarded_discard s k .truncated⟩
  refine ⟨fun s k hr => ⟨fun hd => ⟨⟨_, rfl, cut s k hr hd⟩, ⟨_, rfl, cut s k hr hd⟩⟩, fun active ha => ?ended,
    fun hi => ?silent⟩, fun s k active hs h => ?none, fun s active hs => ?idle⟩
  case ended =>
    have hd : s.link.reception ≠ .done := by
      rcases ha with ⟨idle, -⟩ | ⟨-, done⟩
      · simp [idle]
      · exact done
    have hactive : s.link.reception = .idle → active = true := fun idle => by
      rcases ha with ⟨-, on⟩ | ⟨busy, -⟩
      · exact on
      · exact absurd idle busy
    refine ⟨_, { s with toDevice := discard .truncated k s.toDevice }, exec_slotEnd active hr.1,
      discarded_discard s k .truncated,
      congrArg (fun x => { s with toDevice := x }) (discard_eq s.toDevice k .truncated), ?_⟩
    rw [endSlot_cut hr hd hactive]
    rfl
  case silent =>
    refine ⟨_, exec_slotEnd false hr.1, ?_⟩
    rw [endSlot_silent hr hi]
    refine ⟨?_, ?_, fun h0 => ?_, fun b hb => ?_, fun h0 => ?_⟩
    · rw [silentOutcome_eq]; rfl
    · rw [silentOutcome_eq]; rfl
    · rw [h0]; rfl
    · exact (silentOutcome_peers _ _ _).trans (if_neg fun h => hb h.2)
    · exact (silentOutcome_peers _ _ _).trans (if_pos ⟨h0, rfl⟩)
  case none =>
    have nothing : endSlot active s.toDevice = s.toDevice := by
      refine endSlot_none ?_
      rcases h with own | done
      · refine .inl fun b hb => ?_
        obtain ⟨slot, other⟩ := hb
        exact other (own.trans (hs.symm.trans slot))
      · exact .inr done
    refine ⟨_, exec_slotEnd active hs, ?_⟩
    rw [nothing]
    rfl
  case idle =>
    change Host.Outcome.next { s with toDevice := slotEnd active s.toDevice } = _
    rw [slotEnd, hs]

/-- Settles O6: an edge is the controller's own, early or accepted; a stuck line and a clean release change what R6 and
R7 name. -/
theorem pulseLineWithoutMark : Obligations.PulseLineWithoutMark := by
  refine ⟨fun since previous view s hp => ⟨fun own => ?own, fun free early => ?early⟩,
    fun s => ⟨?stuck, fun open_ => ?clean,
    fun closed => ?unclean⟩⟩
  case own =>
    have nothing : candidateEdge since view s.toDevice = s.toDevice := by
      rw [candidateEdge, edgeMoment, hp]
      exact if_pos own
    exact congrArg (fun x => Host.Outcome.next { s with toDevice := x }) nothing
  case early =>
    have noted : candidateEdge since view s.toDevice =
        addError .earlyMark (atMoment (previous + since) s.toDevice) := by
      rw [candidateEdge, edgeMoment, hp]
      dsimp only [Option.getD_some]
      rw [if_neg (Nat.not_lt.2 free), if_neg (by simp [Config.earlyLimit]; omega)]
    refine ⟨{ s with toDevice := candidateEdge since view s.toDevice }, rfl, ?_⟩
    rw [noted]
    rfl
  case stuck =>
    refine ⟨{ s with toDevice := stuckLow s.toDevice }, rfl, ?_, ?_, ?_⟩
    · rw [stuckLow_eq, raiseCause_eq]
    · rw [stuckLow_eq]
      exact occurred_raiseCause s.toDevice .cadenceFault
    · rw [stuckLow_eq, mute_eq]
  case clean =>
    have released : cleanRelease s.toDevice = { s.toDevice with link := { s.link with
        markPulse := false, mode := if s.link.mode = .muted then .normal else s.link.mode } } := if_pos open_
    exact congrArg (fun x => Host.Outcome.next { s with toDevice := x }) released
  case unclean =>
    have nothing : cleanRelease s.toDevice = s.toDevice := if_neg (by simp [closed])
    exact congrArg (fun x => Host.Outcome.next { s with toDevice := x }) nothing

end Sys2Proof.Proofs
end


section
/-! What the blocks' own work keeps. Events, settles, lane runs, supervision and the job's requests leave the peer view,
pattern memory and the bench handler alone, touch nothing of the link controller but its DISTURB and notice queues, and
nothing of the job record's lanes, target and retries. -/

namespace Sys2Proof.Machine

/-- What the blocks' own work keeps between two devices. -/
structure WorkKeeps (d d' : Device) : Prop where
  link : d'.link = { d.link with disturbs := d'.link.disturbs, notices := d'.link.notices }
  view : d'.view = d.view
  pattern : d'.pattern = d.pattern
  bench : d'.bench = d.bench
  starts : d'.job.starts = d.job.starts
  mask : d'.job.mask = d.job.mask
  target : d'.job.target = d.job.target
  retries : d'.job.retries = d.job.retries

namespace WorkKeeps

theorem refl (d : Device) : WorkKeeps d d := ⟨rfl, rfl, rfl, rfl, rfl, rfl, rfl, rfl⟩

theorem trans {a b c : Device} (hab : WorkKeeps a b) (hbc : WorkKeeps b c) : WorkKeeps a c where
  link := by rw [hbc.link, hab.link]
  view := hbc.view.trans hab.view
  pattern := hbc.pattern.trans hab.pattern
  bench := hbc.bench.trans hab.bench
  starts := hbc.starts.trans hab.starts
  mask := hbc.mask.trans hab.mask
  target := hbc.target.trans hab.target
  retries := hbc.retries.trans hab.retries

theorem bay {d d' : Device} (h : WorkKeeps d d') : d'.link.bay = d.link.bay := by rw [h.link]

theorem frame {d d' : Device} (h : WorkKeeps d d') : d'.link.frame = d.link.frame := by rw [h.link]

/-- Work over a list keeps what each of its steps keeps. -/
theorem foldl {α : Type} {f : Device → α → Device} (h : ∀ d a, WorkKeeps d (f d a)) (l : List α) (d : Device) :
    WorkKeeps d (l.foldl f d) := by
  induction l generalizing d with
  | nil => exact refl d
  | cons a l ih => exact (h d a).trans (ih _)

/-- A branch keeps what both of its ways keep. -/
theorem ite {c : Prop} [Decidable c] {d a b : Device} (ha : WorkKeeps d a) (hb : WorkKeeps d b) :
    WorkKeeps d (if c then a else b) := by
  split_ifs
  · exact ha
  · exact hb

end WorkKeeps

section
variable (d : Device)

/-! ### Updates of one block -/

theorem setEngine_keeps (g : Engine) : WorkKeeps d (setEngine g d) := ⟨rfl, rfl, rfl, rfl, rfl, rfl, rfl, rfl⟩
theorem setPower_keeps (p : Power) : WorkKeeps d (setPower p d) := ⟨rfl, rfl, rfl, rfl, rfl, rfl, rfl, rfl⟩
theorem setLane_keeps (i : LaneId) (l : Lane) : WorkKeeps d (setLane i l d) := ⟨rfl, rfl, rfl, rfl, rfl, rfl, rfl, rfl⟩
theorem setCapture_keeps (i : LaneId) (c : Capture) : WorkKeeps d (setCapture i c d) :=
  ⟨rfl, rfl, rfl, rfl, rfl, rfl, rfl, rfl⟩
theorem atMoment_keeps (m : Nat) : WorkKeeps d (atMoment m d) := ⟨rfl, rfl, rfl, rfl, rfl, rfl, rfl, rfl⟩
theorem presentPins_keeps (i : LaneId) (b : Byte) : WorkKeeps d (presentPins i b d) :=
  ⟨rfl, rfl, rfl, rfl, rfl, rfl, rfl, rfl⟩
theorem abandon_keeps (i : LaneId) : WorkKeeps d (abandon i d) := setCapture_keeps d i _

/-- A change of the job that leaves the lanes, the target and the retries of the record. -/
theorem setJob_keeps (j : Job) (hs : j.starts = d.job.starts := by rfl) (hm : j.mask = d.job.mask := by rfl)
    (ht : j.target = d.job.target := by rfl) (hr : j.retries = d.job.retries := by rfl) :
    WorkKeeps d (setJob j d) := ⟨rfl, rfl, rfl, rfl, hs, hm, ht, hr⟩

/-! ### Causes, notices and DISTURB requests -/

theorem offer_keeps (m : CauseSet) : WorkKeeps d (offer m d) := by
  unfold offer
  split_ifs <;> exact ⟨rfl, rfl, rfl, rfl, rfl, rfl, rfl, rfl⟩

theorem offerAll_keeps : WorkKeeps d (offerAll d) := offer_keeps d _

theorem raiseCause_keeps (c : Cause) : WorkKeeps d (raiseCause c d) := by
  unfold raiseCause offer
  dsimp only
  split_ifs <;> exact ⟨rfl, rfl, rfl, rfl, rfl, rfl, rfl, rfl⟩

theorem requestDisturb_keeps (f : Frame) (src : Source) : WorkKeeps d (requestDisturb f src d) := by
  unfold requestDisturb
  split_ifs <;> exact ⟨rfl, rfl, rfl, rfl, rfl, rfl, rfl, rfl⟩

/-! ### The attribution engine -/

theorem rackEvent_keeps (e : Entry) : WorkKeeps d (rackEvent e d) := by
  have counted := setEngine_keeps d { d.engine with
    rackEvents := min Config.counterLimit (d.engine.rackEvents + 1), pool := freeSnapshot e.snapshot d.engine.pool }
  have reported := WorkKeeps.ite (c := d.job.state.active = true)
    (counted.trans (setJob_keeps _ { d.job with rackEvents := min Config.counterLimit (d.job.rackEvents + 1) })) counted
  exact reported.trans (raiseCause_keeps _ _)

theorem settleFound_keeps (e : Entry) (c : Nat) : WorkKeeps d (settleFound e c d) :=
  .ite (.trans (setEngine_keeps d _) (raiseCause_keeps _ _)) (setEngine_keeps d _)

theorem settleNew_keeps (e : Entry) (c : Nat) : WorkKeeps d (settleNew e c d) :=
  .ite (.trans (setEngine_keeps d _) (raiseCause_keeps _ _)) (setEngine_keeps d _)

theorem dropEntry_keeps (e : Entry) : WorkKeeps d (dropEntry e d) :=
  .trans (setEngine_keeps d _) (raiseCause_keeps _ _)

theorem settle_keeps (e : Entry) : WorkKeeps d (settle e d) := by
  rcases settle_cases d e with ⟨-, h⟩ | ⟨-, -, h⟩ | ⟨-, -, ⟨-, h⟩ | ⟨-, ⟨r, -, h⟩ | ⟨-, h⟩⟩⟩ <;> rw [h]
  · exact rackEvent_keeps d e
  · exact settleFound_keeps d e _
  · exact settleNew_keeps d e _
  · exact .trans (setEngine_keeps d _) (settleNew_keeps _ e _)
  · exact dropEntry_keeps d e

theorem earlySettle_keeps : WorkKeeps d (earlySettle d) := by
  unfold earlySettle
  cases d.engine.queue with
  | nil => exact .refl d
  | cons e rest =>
    exact .trans (.trans (.trans (setEngine_keeps d _) (settle_keeps _ e)) (raiseCause_keeps _ _)) (setEngine_keeps _ _)

theorem enqueue_keeps (l : Locus) (f : Frame) : WorkKeeps d (enqueue l f d) := setEngine_keeps d _

theorem tallyEvent_keeps (l : Locus) (f : Frame) : WorkKeeps d (tallyEvent l f d) :=
  .ite (.ite (.trans (setEngine_keeps d _) (requestDisturb_keeps _ _ _)) (setEngine_keeps d _))
    (.ite (.ite (.trans (setEngine_keeps d _) (requestDisturb_keeps _ _ _)) (setEngine_keeps d _)) (.refl d))

theorem takeEvent_keeps (l : Locus) (f : Frame) : WorkKeeps d (takeEvent l f d) := by
  unfold takeEvent
  refine .trans ?_ (tallyEvent_keeps _ l f)
  exact .ite (setEngine_keeps d _) (.ite (.trans (earlySettle_keeps d) (enqueue_keeps _ l f)) (enqueue_keeps d l f))

theorem opportunity_keeps (l : Locus) : WorkKeeps d (opportunity l d) := setEngine_keeps d _

theorem settleDue_keeps : WorkKeeps d (settleDue d) :=
  .trans (setEngine_keeps d _) (.foldl (fun x e => settle_keeps x e) _ _)

/-! ### Requests, settings and the closing test -/

theorem takeRequest_keeps (r : LaneRequest) (i : LaneId) : WorkKeeps d (takeRequest r i d) := by
  rw [takeRequest_eq]
  exact ⟨rfl, rfl, rfl, rfl, rfl, rfl, rfl, rfl⟩

theorem giveLanes_keeps (r : LaneRequest) : WorkKeeps d (giveLanes r d) :=
  .foldl (fun x i => takeRequest_keeps x r i) _ _

theorem requestOff_keeps : WorkKeeps d (requestOff d) :=
  .ite (.trans (setPower_keeps d _) (giveLanes_keeps _ _)) (setPower_keeps d _)

theorem leaveClosing_keeps : WorkKeeps d (leaveClosing d) :=
  .trans (setJob_keeps d _) (raiseCause_keeps _ _)

theorem closingTest_keeps : WorkKeeps d (closingTest d) := by
  rcases closingTest_cases d with h | h | h | h <;> rw [h]
  · exact .refl d
  · exact requestOff_keeps d
  · exact leaveClosing_keeps d
  · exact .trans (requestOff_keeps d) (leaveClosing_keeps _)

theorem inForce_keeps (n : NamedSettings) : WorkKeeps d (inForce n d) := by
  have notices : ∀ x : Device, WorkKeeps x (noticesInForce n x) := fun x =>
    .ite (.trans (b := { x with causes := mergeCauses n x.causes }) ⟨rfl, rfl, rfl, rfl, rfl, rfl, rfl, rfl⟩
      (offerAll_keeps _)) (.refl x)
  exact .trans (.trans (setPower_keeps d _) (setJob_keeps _ _)) (notices _)

theorem stagedInForce_keeps : WorkKeeps d (stagedInForce d) :=
  .trans (setJob_keeps d _) (inForce_keeps _ _)

theorem enterClosing_keeps (r : ClosingReason) : WorkKeeps d (enterClosing r d) :=
  .trans (setJob_keeps d _) (stagedInForce_keeps _)

theorem giveLanesAndTest_keeps (r : LaneRequest) : WorkKeeps d (giveLanesAndTest r d) :=
  .ite (.trans (giveLanes_keeps d r) (closingTest_keeps _)) (giveLanes_keeps d r)

theorem jobPowerOff_keeps : WorkKeeps d (jobPowerOff d) :=
  .ite (setJob_keeps d _) (closingTest_keeps d)

theorem givePowerOff_keeps : WorkKeeps d (givePowerOff d) :=
  .ite (.trans (requestOff_keeps d) (jobPowerOff_keeps _)) (requestOff_keeps d)

theorem givePower_keeps : WorkKeeps d (givePower d) := setPower_keeps d _

theorem fallDone_keeps : WorkKeeps d (fallDone d) := by
  have reached := (setPower_keeps d { d.power with state := .off }).trans (jobPowerOff_keeps _)
  exact .ite (.trans reached (setPower_keeps _ _)) reached

theorem dwellEnd_keeps : WorkKeeps d (dwellEnd d) :=
  .ite (.trans (setJob_keeps d _) (givePower_keeps _)) (.refl d)

theorem dwellMark_keeps : WorkKeeps d (dwellMark d) := by
  unfold dwellMark
  split
  · exact .ite (dwellEnd_keeps d) (setJob_keeps d _)
  · exact .refl d

theorem jobTrip_keeps : WorkKeeps d (jobTrip d) := by
  have stop := giveLanes_keeps d .stop
  have run : WorkKeeps d
      (let d1 := giveLanes .stop d
       if d.job.state = .paused ∧ d.job.finishDue then closingTest (enterClosing .target d1)
       else if d1.job.retriesUsed < d1.job.retries then
         setJob { d1.job with state := .recovering, retriesUsed := d1.job.retriesUsed + 1, phase := some .dwelling,
                              dwell := some d1.job.offDwell } d1
       else closingTest (enterClosing .exhausted d1)) :=
    .ite (stop.trans (.trans (enterClosing_keeps _ _) (closingTest_keeps _)))
      (.ite (stop.trans (setJob_keeps _ _))
        (stop.trans (.trans (enterClosing_keeps _ _) (closingTest_keeps _))))
  unfold jobTrip
  split
  · exact closingTest_keeps d
  · exact .refl d
  · exact .refl d
  · exact .refl d
  · exact .refl d
  all_goals exact run

/-! ### Cycles and code runs -/

theorem countCycle_keeps : WorkKeeps d (countCycle d) :=
  .trans (.trans (setJob_keeps d _) (setEngine_keeps _ _)) (stagedInForce_keeps _)

theorem cyclePowerOff_keeps : WorkKeeps d (cyclePowerOff d) :=
  .ite (.trans (setPower_keeps d _) (jobPowerOff_keeps _)) (setPower_keeps d _)

theorem jobCycle_keeps (giving : Bool) : WorkKeeps d (jobCycle giving d).1 := by
  have count := countCycle_keeps d
  have cycling : WorkKeeps d (enterCycling (countCycle d)) := count.trans (setJob_keeps _ _)
  unfold jobCycle
  dsimp only
  split_ifs
  · exact count.trans (setJob_keeps _ _)
  · exact count.trans (enterClosing_keeps _ _)
  · exact cycling
  · exact cycling.trans (cyclePowerOff_keeps _)
  · exact count
  · exact .refl d

theorem judgePin_keeps (i : LaneId) (tag failing mask : Byte) (p : Fin 8) :
    WorkKeeps d (judgePin i tag failing mask d p) :=
  .ite (takeEvent_keeps d _ _) (.ite (opportunity_keeps d _) (.refl d))

theorem strobe_keeps (i : LaneId) (tag expected mask : Byte) : WorkKeeps d (strobe i tag expected mask d) :=
  .ite (.refl d) (.trans (.foldl (fun x p => judgePin_keeps x _ _ _ _ p) _ d) (setCapture_keeps _ _ _))

theorem openWindow_keeps (i : LaneId) (tag : Byte) : WorkKeeps d (openWindow i tag d) :=
  .ite (.trans (setCapture_keeps d _ _) (raiseCause_keeps _ _)) (setCapture_keeps d _ _)

theorem closeWindow_keeps (i : LaneId) (tag : Byte) (w : Word) : WorkKeeps d (closeWindow i tag w d) := by
  have shut := setCapture_keeps d i { capture d i with window := none }
  refine .ite (shut.trans (raiseCause_keeps _ _)) (.ite shut (.ite ?_ ?_))
  · exact shut.trans (.trans (setCapture_keeps _ _ _) (opportunity_keeps _ _))
  · exact shut.trans (.trans (setCapture_keeps _ _ _) (takeEvent_keeps _ _ _))

theorem codeFault_keeps (k : FaultKind) (i : LaneId) : WorkKeeps d (codeFault k i d) :=
  .trans (.trans (abandon_keeps d i) (setLane_keeps _ _ _)) (raiseCause_keeps _ _)

theorem streamStop_keeps (i : LaneId) : WorkKeeps d (streamStop i d) :=
  .trans (abandon_keeps d i) (setLane_keeps _ _ _)

theorem advance_keeps (n : Nat) (i : LaneId) : WorkKeeps d (advance n i d) := setLane_keeps d _ _
theorem driveVector_keeps (v : Byte) (i : LaneId) : WorkKeeps d (driveVector v i d) := setLane_keeps d _ _
theorem driveHold_keeps (n : Nat) (i : LaneId) : WorkKeeps d (driveHold n i d) := setLane_keeps d _ _

theorem repeatCode_keeps (n : Nat) (i : LaneId) : WorkKeeps d (repeatCode n i d).device := by
  unfold repeatCode
  dsimp only
  split_ifs
  · exact codeFault_keeps d _ _
  · exact setLane_keeps d _ _

theorem againCode_keeps (i : LaneId) : WorkKeeps d (againCode i d).device := by
  unfold againCode
  dsimp only
  split
  · exact codeFault_keeps d _ _
  · split_ifs <;> exact setLane_keeps d _ _

theorem markCode_keeps (giving : Bool) (k : Byte) (i : LaneId) : WorkKeeps d (markCode giving k i d).device := by
  unfold markCode
  split_ifs
  · exact jobCycle_keeps d giving
  · exact .refl d
  · exact .trans (setLane_keeps d _ _) (raiseCause_keeps _ _)

theorem wrapCode_keeps (i : LaneId) : WorkKeeps d (wrapCode i d).device := by
  unfold wrapCode
  dsimp only
  split_ifs
  · exact streamStop_keeps d i
  · exact setLane_keeps d _ _

theorem oneCode_keeps (giving : Bool) (i : LaneId) : WorkKeeps d (oneCode giving i d).device := by
  unfold oneCode
  dsimp only
  split_ifs
  · exact codeFault_keeps d _ _
  cases decodeCode (patternRead d.pattern (lane d i).position) with
  | stop => exact streamStop_keeps d i
  | vector v => exact driveVector_keeps d v i
  | hold n => exact driveHold_keeps d n i
  | loop n => exact repeatCode_keeps d n i
  | again => exact againCode_keeps d i
  | strobe tag => exact .trans (advance_keeps d 2 i) (strobe_keeps _ _ _ _ _)
  | openWindow tag => exact .trans (advance_keeps d 1 i) (openWindow_keeps _ _ _)
  | closeWindow tag => exact .trans (advance_keeps d 2 i) (closeWindow_keeps _ _ _ _)
  | mark k => exact .trans (advance_keeps d 1 i) (markCode_keeps _ _ _ _)
  | rate => exact .trans (setLane_keeps d _ _) (advance_keeps _ 2 i)
  | park v => exact .trans (setLane_keeps d _ _) (advance_keeps _ 1 i)
  | wrap => exact wrapCode_keeps d i
  | undefinedCode => exact codeFault_keeps d _ _

theorem lastCode_keeps (i : LaneId) : WorkKeeps d (lastCode i d) := by
  unfold lastCode
  split
  · exact driveVector_keeps d _ i
  · exact driveHold_keeps d _ i
  · exact codeFault_keeps d _ i

theorem codeRun_keeps (giving : Bool) (i : LaneId) (k : Nat) : WorkKeeps d (codeRun giving i k d).1 := by
  induction k generalizing d with
  | zero => exact .ite (codeFault_keeps d _ i) (lastCode_keeps d i)
  | succ k ih =>
    have one := oneCode_keeps d giving i
    unfold codeRun
    split_ifs
    · exact codeFault_keeps d _ i
    · rcases h : oneCode giving i d with d1 | ⟨d1, later⟩ <;> rw [h] at one
      · exact one
      · exact one.trans (ih d1)

/-! ### Step events, starts and resumes -/

theorem takeSample_keeps (i : LaneId) : WorkKeeps d (takeSample i d) := setCapture_keeps d _ _
theorem loadTimer_keeps (i : LaneId) : WorkKeeps d (loadTimer i d) := setLane_keeps d _ _

theorem stepCore_keeps (giving : Bool) (i : LaneId) : WorkKeeps d (stepCore giving i d).1 := by
  have sample := takeSample_keeps d i
  have run := sample.trans (codeRun_keeps _ giving i Config.runLimit)
  unfold stepCore
  dsimp only
  split_ifs
  · exact sample.trans (.trans (setLane_keeps _ _ _) (loadTimer_keeps _ _))
  · exact run.trans (loadTimer_keeps _ _)
  · exact run
  · exact run.trans (closingTest_keeps _)

theorem takeDeferred_keeps (r : Deferred) : WorkKeeps d (takeDeferred d r) := by
  cases r with
  | request r => exact giveLanesAndTest_keeps d r
  | powerOff => exact cyclePowerOff_keeps d
  | report => exact closingTest_keeps d

theorem deliver_keeps (rs : List Deferred) : WorkKeeps d (deliver rs d) := .foldl takeDeferred_keeps rs d

theorem stepExpiry_keeps (i : LaneId) : WorkKeeps d (stepExpiry i d) := by
  unfold stepExpiry
  split
  · exact .ite (.trans (.trans (atMoment_keeps d _) (stepCore_keeps _ _ _)) (deliver_keeps _ _)) (.refl d)
  · exact .refl d
  · exact .refl d

theorem startLane_keeps (i : LaneId) : WorkKeeps d (startLane i d).1 := by
  have gone := abandon_keeps d i
  unfold startLane
  dsimp only
  split_ifs
  · exact gone.trans (.trans (setLane_keeps _ _ _) (stepCore_keeps _ _ _))
  · exact gone.trans (setLane_keeps _ _ _)

theorem startLanes_keeps (is : List LaneId) : WorkKeeps d (startLanes is d).1 := by
  induction is generalizing d with
  | nil => exact .refl d
  | cons i is ih => exact .trans (startLane_keeps d i) (ih _)

theorem jobPowerOn_keeps : WorkKeeps d (jobPowerOn d) :=
  .ite (.trans (.trans (setJob_keeps d _) (startLanes_keeps _ _)) (deliver_keeps _ _)) (.refl d)

theorem resumeLane_keeps (i : LaneId) : WorkKeeps d (resumeLane d i) :=
  .ite (.ite (setLane_keeps d _ _) (.trans (abandon_keeps d i) (setLane_keeps _ _ _))) (.refl d)

theorem resumeSteps_keeps (is : List LaneId) : WorkKeeps d (resumeSteps is d).1 := by
  induction is generalizing d with
  | nil => exact .refl d
  | cons i is ih =>
    have step : WorkKeeps d (if (lane d i).state.going then stepCore false i d else (d, [])).1 := by
      split_ifs
      · exact stepCore_keeps d false i
      · exact .refl d
    exact step.trans (ih _)

theorem giveResume_keeps : WorkKeeps d (giveResume d) := by
  have lanes : WorkKeeps d (allLanes.foldl resumeLane d) := .foldl resumeLane_keeps _ d
  unfold giveResume
  refine .trans (.trans ?_ (resumeSteps_keeps _ _)) (deliver_keeps _ _)
  exact .ite (lanes.trans (closingTest_keeps _)) lanes

/-! ### Samples and the board -/

theorem fullScaleCause_keeps (was : Bool) (v : Nat) : WorkKeeps d (fullScaleCause was v d) :=
  .ite (raiseCause_keeps d _) (.refl d)

theorem tripWith_keeps (c : Cause) (r : RailId) (disturb : Bool) : WorkKeeps d (tripWith c r disturb d) := by
  have event : WorkKeeps d (takeEvent (.trip r) d.link.frame (raiseCause c (setPower (tripped d.power) d))) :=
    .trans (.trans (setPower_keeps d _) (raiseCause_keeps _ _)) (takeEvent_keeps _ _ _)
  have request := WorkKeeps.ite (c := disturb = true) (event.trans (requestDisturb_keeps _ d.link.frame .rail)) event
  have left := WorkKeeps.ite (c := d.power.state = .on) (request.trans (giveLanes_keeps _ .powerLeft)) request
  exact left.trans (jobTrip_keeps _)

theorem railGlitch_keeps (r : RailId) (f : Frame) : WorkKeeps d (railGlitch r f d) :=
  .trans (.trans (.trans (raiseCause_keeps d _) (takeEvent_keeps _ _ _)) (requestDisturb_keeps _ _ _))
    (setPower_keeps _ _)

theorem superviseCurrent_keeps (v : Nat) : WorkKeeps d (superviseCurrent v d) :=
  .ite (.ite (.ite (tripWith_keeps d _ _ _) (setPower_keeps d _)) (setPower_keeps d _)) (.refl d)

theorem sampleCurrent_keeps (v : Nat) : WorkKeeps d (sampleCurrent v d) :=
  .trans (.trans (setPower_keeps d _) (fullScaleCause_keeps _ _ _)) (superviseCurrent_keeps _ _)

theorem outsideSample_keeps (r : RailId) : WorkKeeps d (outsideSample r d) := setPower_keeps d _

theorem superviseRail_keeps (r : RailId) : WorkKeeps d (superviseRail r d) :=
  .ite (.ite (.refl d) (railGlitch_keeps d _ _))
    (.ite (.trans (outsideSample_keeps d r) (tripWith_keeps _ _ _ _)) (outsideSample_keeps d r))

theorem sampleRail_keeps (r : RailId) (v : Nat) : WorkKeeps d (sampleRail r v d) := by
  have stored := fun p => (setPower_keeps d p).trans (fullScaleCause_keeps _ d.power.rails[r].fullScale v)
  unfold sampleRail
  dsimp only
  split
  · exact (stored _).trans (superviseRail_keeps _ _)
  · exact .ite ((stored _).trans (fallDone_keeps _)) (stored _)
  all_goals exact stored _

theorem sampleChannel_keeps (c : Channel) (v : Nat) : WorkKeeps d (sampleChannel c v d) := by
  cases c with
  | rail r => exact sampleRail_keeps d r v
  | current => exact sampleCurrent_keeps d v

/-! ### The blocks at a mark -/

theorem readTemperature_keeps (t : TempReading) : WorkKeeps d (readTemperature t d) := by
  cases t with
  | sensorOpen => exact raiseCause_keeps d _
  | halfDegrees t => exact .ite (setPower_keeps d _) (.trans (setPower_keeps d _) (raiseCause_keeps _ _))

theorem glitchOpportunities_keeps (p : Power) : WorkKeeps d (glitchOpportunities p d) :=
  .foldl (fun x _ => .ite (.refl x) (opportunity_keeps x _)) _ d

theorem tripOpportunities_keeps : WorkKeeps d (tripOpportunities d) :=
  .foldl (fun x _ => opportunity_keeps x _) _ d

theorem riseEndTest_keeps : WorkKeeps d (riseEndTest d) := by
  unfold riseEndTest
  split
  · exact .trans (.trans (setPower_keeps d _) (tripOpportunities_keeps _)) (jobPowerOn_keeps _)
  · exact .trans (setPower_keeps d _) (tripWith_keeps _ _ _ _)

theorem fallMark_keeps : WorkKeeps d (fallMark d) :=
  .ite (.trans (setPower_keeps d _) (fallDone_keeps _)) (setPower_keeps d _)

theorem powerMark_keeps : WorkKeeps d (powerMark d) := by
  unfold powerMark
  split
  · exact .trans (glitchOpportunities_keeps d _) (setPower_keeps _ _)
  · exact .ite (riseEndTest_keeps d) (setPower_keeps d _)
  · exact fallMark_keeps d
  all_goals exact setPower_keeps d _

theorem monitorMark_keeps (v : MarkView) : WorkKeeps d (monitorMark v d) :=
  .trans (readTemperature_keeps d _) (powerMark_keeps _)

theorem settleMark_keeps : WorkKeeps d (settleMark d) :=
  .ite (.trans (settleDue_keeps d) (closingTest_keeps _)) (settleDue_keeps d)

theorem settleAndMonitor_keeps (v : MarkView) : WorkKeeps d (settleAndMonitor v d) :=
  .ite (.trans (settleMark_keeps d) (monitorMark_keeps _ v)) (.trans (monitorMark_keeps d v) (settleMark_keeps _))

theorem tallyShift_keeps : WorkKeeps d (tallyShift d) := setEngine_keeps d _

end

end Sys2Proof.Machine
end


section
/-! Command items (R180, R181, R198): what each row of a known kind is, and a slot-0 message of one item and of two. -/

namespace Sys2Proof.Machine

open Sys2Proof.Safety

variable (d : Device) (s : State)

/-! ### Rows and kinds -/

/-- A row of a known kind is the handling of an item of that kind, with the capture pins that the row presents. -/
theorem exec_item {c : Instr} {kind seq : Byte} {args : List Byte} (h : itemParts c = some (kind, seq, args)) :
    ∃ body : Device → Device × Answer, exec c s = .next { s with
      toDevice :=
        handleItem kind seq (rightLength kind args) body (presentAllPins (presented c s.pins) s.toDevice) } := by
  cases c <;> simp only [itemParts, reduceCtorEq, Option.some.injEq, Prod.mk.injEq] at h <;>
    obtain ⟨rfl, rfl, rfl⟩ := h <;> exact ⟨_, rfl⟩

/-- The row that an item of a kind is, run with the capture pins as they stand, is the item's handling (R198). -/
theorem exec_commandOf (kind seq : Byte) (args : List Byte) :
    exec (commandOf kind seq args s.pins) s = .next { s with toDevice := itemByKind kind seq args s.toDevice } := by
  unfold commandOf
  split
  case h_25 => rfl
  all_goals
    rename_i hk
    unfold itemByKind
    rw [hk]
    rfl

/-- A kind that names no command (R181, R198). -/
theorem itemByKind_unknown {kind : Byte} (seq : Byte) (args : List Byte) (h : kind.toNat = 0 ∨ 24 < kind.toNat) :
    itemByKind kind seq args d = itemUnknown kind seq d := by
  unfold itemByKind
  split
  case h_25 => rfl
  all_goals omega

end Sys2Proof.Machine

namespace Sys2Proof.Proofs

open Sys2Proof.Machine Sys2Proof.Safety

/-- Settles O26: the handling of an item tests the queue, then the length, then the kind (R181). -/
theorem itemsThatAreNotExecuted : Obligations.ItemsThatAreNotExecuted := by
  refine ⟨fun c kind seq args s h => ⟨fun full => ?full, fun room wrong => ?wrong⟩,
    fun kind seq args s h => ⟨fun full => ?unknownFull, fun room => ?unknown⟩⟩
  case full =>
    obtain ⟨body, run⟩ := exec_item s h
    rw [run, handleItem_full (presentAllPins (presented c s.pins) s.toDevice) _ _ _ _ full]
    rfl
  case wrong =>
    obtain ⟨body, run⟩ := exec_item s h
    rw [run, wrong, handleItem_wrongLength (presentAllPins (presented c s.pins) s.toDevice) _ _ _ room]
    exact congrArg Host.Outcome.next
      (offerReply_answered { s with pins := presented c s.pins } kind seq { reason := .range })
  case unknownFull =>
    change Host.Outcome.next { s with toDevice := itemByKind kind seq args s.toDevice } = _
    rw [itemByKind_unknown _ _ _ h, itemUnknown, handleItem_full _ _ _ _ _ full]
    rfl
  case unknown =>
    change Host.Outcome.next { s with toDevice := itemByKind kind seq args s.toDevice } = _
    rw [itemByKind_unknown _ _ _ h, itemUnknown, handleItem_executed _ _ _ _ room]
    exact congrArg Host.Outcome.next (offerReply_answered s kind seq { reason := .unknown })

end Sys2Proof.Proofs
end


section
/-! A slot-0 message (R15, R180): its items parse, each is executed at its target, and the bay strap stands through all
of them. -/

namespace Sys2Proof.Machine

open Sys2Proof.Safety

/-! ### Every item and every event between two items leaves the bay strap -/

/-- A command's execution leaves the bay strap (R9: it is read at cold start alone). -/
def BodyKeepsBay (body : Device → Device × Answer) : Prop := ∀ d, (body d).1.link.bay = d.link.bay

theorem handleItem_bay {body : Device → Device × Answer} (h : BodyKeepsBay body) (kind seq : Byte) (ok : Bool)
    (d : Device) : (handleItem kind seq ok body d).link.bay = d.link.bay := by
  unfold handleItem
  split_ifs
  · rfl
  · rw [offerReply_link]
    exact h d
  · rw [offerReply_link]

theorem answering_keepsBay (r : Reason) : BodyKeepsBay (answering r) := fun _ => rfl

theorem acceptSettings_bay (n : NamedSettings) (d : Device) : (acceptSettings n d).link.bay = d.link.bay := by
  unfold acceptSettings
  split_ifs
  · rfl
  · exact (inForce_keeps d n).bay

theorem bodyLoad_keepsBay (args : List Byte) : BodyKeepsBay (bodyLoad args) := by
  intro d
  unfold bodyLoad
  dsimp only
  split_ifs <;> rfl

theorem bodyJobLanes_keepsBay (args : List Byte) : BodyKeepsBay (bodyJobLanes args) := by
  intro d
  unfold bodyJobLanes
  dsimp only
  split_ifs <;> rfl

theorem bodyJobRails_keepsBay (args : List Byte) : BodyKeepsBay (bodyJobRails args) := by
  intro d
  unfold bodyJobRails
  dsimp only
  split_ifs
  · rfl
  · exact acceptSettings_bay _ d

theorem bodyJobLimits_keepsBay (args : List Byte) : BodyKeepsBay (bodyJobLimits args) := acceptSettings_bay _
theorem bodyJobCauses_keepsBay (args : List Byte) : BodyKeepsBay (bodyJobCauses args) := acceptSettings_bay _

theorem startJob_bay (keep : Bool) (d : Device) : (startJob keep d).link.bay = d.link.bay := by
  unfold startJob
  dsimp only
  split_ifs
  · exact (jobPowerOn_keeps _).bay
  · rfl
  · exact (jobPowerOn_keeps _).bay
  · rfl

theorem bodyStart_keepsBay (args : List Byte) : BodyKeepsBay (bodyStart args) := by
  intro d
  unfold bodyStart
  split_ifs
  · exact startJob_bay _ d
  · rfl

theorem bodyPause_keepsBay : BodyKeepsBay bodyPause := by
  intro d
  unfold bodyPause
  split_ifs
  · dsimp only
    exact (giveLanesAndTest_keeps _ _).bay
  · rfl

theorem bodyResume_keepsBay : BodyKeepsBay bodyResume := by
  intro d
  unfold bodyResume
  split_ifs
  · dsimp only
    exact (((enterClosing_keeps d _).trans (giveResume_keeps _)).trans (closingTest_keeps _)).bay
  · dsimp only
    exact (giveResume_keeps _).bay
  · rfl

theorem abortJob_keeps (d : Device) : WorkKeeps d (abortJob d) := by
  unfold abortJob
  refine .trans (.trans (.trans ?_ (giveLanes_keeps _ _)) (requestOff_keeps _)) (closingTest_keeps _)
  exact .ite (setJob_keeps d _) (enterClosing_keeps d _)

theorem bodyAbort_keepsBay : BodyKeepsBay bodyAbort := by
  intro d
  unfold bodyAbort
  split_ifs
  · dsimp only
    exact (abortJob_keeps d).bay
  · rfl

theorem bodyPower_keepsBay (args : List Byte) : BodyKeepsBay (bodyPower args) := by
  intro d
  unfold bodyPower
  split_ifs
  · rfl
  · rfl
  · rfl
  · dsimp only
    exact (givePowerOff_keeps d).bay

theorem bodyClearTable_keepsBay : BodyKeepsBay bodyClearTable := by
  intro d
  unfold bodyClearTable
  split_ifs <;> rfl

theorem bodyPin_keepsBay (args : List Byte) : BodyKeepsBay (bodyPin args) := by
  intro d
  unfold bodyPin
  split
  · rfl
  · split_ifs <;> rfl

theorem bodyUnpin_keepsBay (args : List Byte) : BodyKeepsBay (bodyUnpin args) := by
  intro d
  unfold bodyUnpin
  split <;> rfl

theorem bodyQueryTable_keepsBay (args : List Byte) : BodyKeepsBay (bodyQueryTable args) := by
  intro d
  unfold bodyQueryTable
  dsimp only
  split_ifs <;> rfl

theorem bodyQuerySnapshot_keepsBay (args : List Byte) : BodyKeepsBay (bodyQuerySnapshot args) := by
  intro d
  unfold bodyQuerySnapshot wholeReadout
  split
  · rfl
  · split_ifs <;> rfl

/-- A command item leaves the bay strap. -/
theorem itemByKind_bay (kind seq : Byte) (args : List Byte) (d : Device) :
    (itemByKind kind seq args d).link.bay = d.link.bay := by
  unfold itemByKind
  split
  · exact handleItem_bay (bodyLoad_keepsBay args) _ _ _ d
  · exact handleItem_bay (bodyJobLanes_keepsBay args) _ _ _ d
  · exact handleItem_bay (bodyJobRails_keepsBay args) _ _ _ d
  · exact handleItem_bay (bodyJobLimits_keepsBay args) _ _ _ d
  · exact handleItem_bay (bodyJobCauses_keepsBay args) _ _ _ d
  · exact handleItem_bay (bodyStart_keepsBay args) _ _ _ d
  · exact handleItem_bay bodyPause_keepsBay _ _ _ d
  · exact handleItem_bay bodyResume_keepsBay _ _ _ d
  · exact handleItem_bay bodyAbort_keepsBay _ _ _ d
  · exact handleItem_bay (bodyPower_keepsBay args) _ _ _ d
  · exact handleItem_bay bodyClearTable_keepsBay _ _ _ d
  · exact handleItem_bay (bodyPin_keepsBay args) _ _ _ d
  · exact handleItem_bay (bodyUnpin_keepsBay args) _ _ _ d
  · exact handleItem_bay (fun _ => rfl) _ _ _ d
  · exact handleItem_bay (bodyQueryTable_keepsBay args) _ _ _ d
  · exact handleItem_bay (bodyQuerySnapshot_keepsBay args) _ _ _ d
  · exact handleItem_bay (fun _ => rfl) _ _ _ d
  · exact handleItem_bay (body := bodyClearCauses args) (fun _ => rfl) _ _ _ d
  · exact handleItem_bay (fun _ => rfl) _ _ _ d
  · exact handleItem_bay (fun _ => rfl) _ _ _ d
  · exact handleItem_bay (fun _ => rfl) _ _ _ d
  · exact handleItem_bay (fun _ => rfl) _ _ _ d
  · exact handleItem_bay (body := bodyReplyLimit args) (fun _ => rfl) _ _ _ d
  · exact handleItem_bay (body := bodyRestart) (fun _ => rfl) _ _ _ d
  · exact handleItem_bay (answering_keepsBay .unknown) _ _ _ d

/-- What a block does between two items keeps what its own work keeps. -/
theorem blockEvent_keeps (d : Device) (e : BlockEvent) : WorkKeeps d (blockEvent d e) := by
  cases e with
  | step i pins => exact .trans (presentPins_keeps d i pins) (stepExpiry_keeps _ i)
  | sample channel reading => exact sampleChannel_keeps d channel reading

/-! ### One command after another -/

theorem afterCommand_commandOf (s : State) (kind seq : Byte) (args : List Byte) :
    afterCommand s (commandOf kind seq args s.pins) =
      { s with toDevice := itemByKind kind seq args s.toDevice } := by
  rw [afterCommand, exec_commandOf]

/-- The events between two items, as rows of the table one after another. -/
theorem foldl_afterCommand_eventOf (es : List BlockEvent) (s : State) :
    (es.map eventOf).foldl afterCommand s = { s with toDevice := es.foldl blockEvent s.toDevice } := by
  induction es generalizing s with
  | nil => rfl
  | cons e es ih =>
    have one : afterCommand s (eventOf e) = { s with toDevice := blockEvent s.toDevice e } := by cases e <;> rfl
    rw [List.map_cons, List.foldl_cons, one, ih]
    rfl

/-! ### The bytes of a good message -/

/-- A message with its own checksum is judged by its payload alone (R13, R14). -/
theorem judgeMessage_withChecksum {k : StationId} {count : Nat} {payload : List Byte} {items : List Item}
    (hp : parseItems (decide (k = 0)) count payload = some items) :
    judgeMessage k payload.length count (withChecksum payload) = .ok items := by
  have taken : (withChecksum payload).take payload.length = payload := List.take_left
  have dropped : (withChecksum payload).drop payload.length = be16 (crc16 payload).toNat := List.drop_left
  refine judgeMessage_parsed ((be16_eq_drop_iff _ (by simp [withChecksum, be16])).1 ?_) ?_
  · rw [taken, dropped]
  · rw [taken, hp]

/-- A good message of slot 0 is taken item by item. -/
theorem exec_goodSlotZero {s : State} {count : Nat} {payload : List Byte} {items : List Item} (view : MessageView)
    (hr : receives s 0) (ha : s.link.reception = .awaiting payload.length count)
    (hp : parseItems true count payload = some items) :
    exec (.messageComplete (withChecksum payload) view) s = .next { s with
      toDevice := commandItems items view.between (setReception .done { s.toDevice with pins := view.pins }) } := by
  rw [messageEvent_of_awaiting view hr ha (by simp [withChecksum, be16]), completeMessage,
    judgeMessage_withChecksum (by simpa using hp)]
  rfl

theorem length_commandItemBytes (target seq kind : Byte) (args : List Byte) :
    (commandItemBytes target seq kind args).length = 5 + args.length := by
  simp [commandItemBytes]
  omega

/-- The parse of a command item, and of what follows it (R14, R196). -/
theorem parseItems_commandItemBytes (target seq kind : Byte) {args : List Byte} (h : args.length < 256) (count : Nat)
    (rest : List Byte) : parseItems true (count + 1) (commandItemBytes target seq kind args ++ rest) =
      (parseItems true count rest).map (.command ⟨target, seq, kind, args⟩ :: ·) := by
  have measured : itemLength true (commandItemBytes target seq kind args ++ rest) =
      some (commandItemBytes target seq kind args).length := by
    have fifth : nat8 (commandItemBytes target seq kind args ++ rest) 4 = args.length := toNat_byteOf h
    have first : nat8 (commandItemBytes target seq kind args ++ rest) 0 = 0x10 := rfl
    rw [length_commandItemBytes, ← fifth]
    unfold itemLength
    rw [first]
    rfl
  rw [show commandItemBytes target seq kind args ++ rest =
    0x10 :: ([target, seq, kind, byteOf args.length] ++ args ++ rest) by simp [commandItemBytes]] at measured ⊢
  rw [parseItems, measured]
  dsimp only
  rw [show (0x10 :: ([target, seq, kind, byteOf args.length] ++ args ++ rest) : List Byte) =
    commandItemBytes target seq kind args ++ rest by simp [commandItemBytes]]
  rw [if_pos (by simp), List.drop_left, List.take_left]
  cases parseItems true count rest <;> rfl

/-! ### An item at its target (R180) -/

theorem routeItem_taken {d : Device} {c : CommandItem} (h : c.target.toNat = 0 ∨ c.target.toNat = d.link.bay.toNat) :
    routeItem 0 d (.command c) = itemByKind c.kind c.seq c.args d := if_pos (decide_eq_true h)

theorem routeItem_passed {d : Device} {c : CommandItem} (h0 : c.target.toNat ≠ 0)
    (h : c.target.toNat ≠ d.link.bay.toNat) : routeItem 0 d (.command c) = d :=
  if_neg (by simp [takesItem, h0, h])

end Sys2Proof.Machine

namespace Sys2Proof.Proofs

open Sys2Proof.Machine Sys2Proof.Safety

/-- Settles O10: an item of slot 0 is the row of its kind, and neither an item nor an event between two of them changes
the bay that the next item is compared with. -/
theorem slotZeroItemIsExecuted : Obligations.SlotZeroItemIsExecuted := by
  refine ⟨fun s target seq kind args view hr hl ha => ?one,
    fun s t1 q1 k1 t2 q2 k2 a1 a2 view hr hl ha h1 => ?two⟩
  case one =>
    have parsed : parseItems true 1 (commandItemBytes target seq kind args) =
        some [.command ⟨target, seq, kind, args⟩] := by
      simpa [parseItems] using parseItems_commandItemBytes target seq kind (by omega) 0 []
    have taken := exec_goodSlotZero view hr (ha.trans (by rw [length_commandItemBytes])) parsed
    refine ⟨fun here => ?_, fun ⟨h0, hb⟩ => ?_⟩
    · refine taken.trans ?_
      rw [commandItems, routeItem_taken here]
      exact (exec_commandOf { s with link := { s.link with reception := .done }, pins := view.pins } kind seq args).symm
    · refine taken.trans ?_
      rw [commandItems, routeItem_passed h0 hb]
      rfl
  case two =>
    have parsed : parseItems true 2 (commandItemBytes t1 q1 k1 a1 ++ commandItemBytes t2 q2 k2 a2) =
        some [.command ⟨t1, q1, k1, a1⟩, .command ⟨t2, q2, k2, a2⟩] := by
      have second := parseItems_commandItemBytes t2 q2 k2 (args := a2) (by omega) 0 []
      rw [List.append_nil] at second
      rw [parseItems_commandItemBytes t1 q1 k1 (by omega), second]
      rfl
    have taken := exec_goodSlotZero view hr (ha.trans (by
      rw [List.length_append, length_commandItemBytes, length_commandItemBytes]; congr 1; omega)) parsed
    intro run received first between
    have first_eq : first = { received with toDevice := itemByKind k1 q1 a1 received.toDevice } :=
      afterCommand_commandOf received k1 q1 a1
    have between_eq : between = { first with toDevice := (view.between.headD []).foldl blockEvent first.toDevice } :=
      foldl_afterCommand_eventOf _ _
    have bay : between.link.bay = s.link.bay := by
      rw [between_eq]
      refine (WorkKeeps.foldl blockEvent_keeps _ _).bay.trans ?_
      rw [first_eq]
      exact itemByKind_bay k1 q1 a1 received.toDevice
    have run_eq : run = .next { received with
        toDevice := routeItem 0 between.toDevice (.command ⟨t2, q2, k2, a2⟩) } := by
      refine taken.trans ?_
      have first_taken : routeItem 0 received.toDevice (.command ⟨t1, q1, k1, a1⟩) =
          itemByKind k1 q1 a1 received.toDevice := routeItem_taken h1
      rw [between_eq, first_eq, ← first_taken]
      rfl
    have pending : ∀ x : Device, ({ received with toDevice := x } : State) = { between with toDevice := x } := by
      rw [between_eq, first_eq]
      exact fun _ => rfl
    refine ⟨fun here => ?_, fun ⟨h0, hb⟩ => ?_⟩
    · rw [run_eq, routeItem_taken (by rw [bay]; exact here), pending]
      exact (exec_commandOf between k2 q2 a2).symm
    · rw [run_eq, routeItem_passed h0 (by rw [bay]; exact hb), pending]

end Sys2Proof.Proofs
end


section
/-! The settles and the offers of a mark (R111, R119, R148, R172). -/

namespace Sys2Proof.Machine

open Sys2Proof.Safety

variable (d : Device)

/-! ### Sets of causes (R193) -/

theorem getLsbD_causeSingle (i j : Fin 15) : (causeSingle j).getLsbD (i.val + 1) = decide (i = j) := by
  revert i j
  decide

/-- The set of the causes at some places holds those, and no other. -/
@[simp] theorem getLsbD_causeSet (is : List (Fin 15)) (i : Fin 15) :
    (causeSet is).getLsbD (i.val + 1) = decide (i ∈ is) := by
  have go : ∀ m : CauseSet, (is.foldl (fun m i => m ||| causeSingle i) m).getLsbD (i.val + 1) =
      (m.getLsbD (i.val + 1) || decide (i ∈ is)) := by
    induction is with
    | nil => simp
    | cons j is ih =>
      intro m
      rw [List.foldl_cons, ih, BitVec.getLsbD_or, getLsbD_causeSingle, Bool.or_assoc]
      simp [List.mem_cons]
  simpa [causeSet] using go 0

theorem passing_eq_causeSet (u : CauseUnit) : passing u = causeSet (allCauses.filter (passesTest u)) :=
  (List.foldl_filter ..).symm

/-- The causes whose notice test passes, by their bits (R147, R193). -/
@[simp] theorem getLsbD_passing (u : CauseUnit) (i : Fin 15) : (passing u).getLsbD (i.val + 1) = passesTest u i := by
  rw [passing_eq_causeSet, getLsbD_causeSet]
  simp [allCauses]

theorem passesTest_iff (u : CauseUnit) (i : Fin 15) : passesTest u i = decide (u.records[i].flag = true ∧
    u.records[i].notified = false ∧ 1 ≤ u.records[i].level ∧ u.floor ≤ u.records[i].level) := by
  unfold passesTest noticeTest
  cases u.records[i].flag <;> cases u.records[i].notified <;> simp

/-! ### A settle and the queue -/

/-- The block with the settling queue replaced. -/
def setQueue (q : List Entry) (d : Device) : Device := setEngine { d.engine with queue := q } d

theorem setQueue_self : setQueue d.engine.queue d = d := rfl

theorem setQueue_setQueue (q r : List Entry) : setQueue q (setQueue r d) = setQueue q d := rfl

theorem raiseCause_setQueue (c : Cause) (q : List Entry) :
    raiseCause c (setQueue q d) = setQueue q (raiseCause c d) := by
  unfold raiseCause offer
  dsimp only [setQueue, setEngine]
  split_ifs <;> rfl

/-- A rack event, as one change of the engine and of the job's rack events before its cause (R121, R175). -/
theorem rackEvent_eq (e : Entry) : rackEvent e d = raiseCause .rackEvent
    (setJob { d.job with rackEvents := if d.job.state.active then min Config.counterLimit (d.job.rackEvents + 1)
                                       else d.job.rackEvents }
      (setEngine { d.engine with rackEvents := min Config.counterLimit (d.engine.rackEvents + 1),
                                 pool := freeSnapshot e.snapshot d.engine.pool } d)) := by
  unfold rackEvent
  by_cases active : d.job.state.active = true <;> simp only [setEngine_job, active] <;> rfl

theorem rackEvent_setQueue (e : Entry) (q : List Entry) :
    rackEvent e (setQueue q d) = setQueue q (rackEvent e d) := by
  rw [rackEvent_eq, rackEvent_eq, ← raiseCause_setQueue]
  rfl

theorem settleFound_setQueue (e : Entry) (c : Nat) (q : List Entry) :
    settleFound e c (setQueue q d) = setQueue q (settleFound e c d) := by
  unfold settleFound
  dsimp only
  rw [apply_ite (setQueue q), ← raiseCause_setQueue]
  rfl

theorem settleNew_setQueue (e : Entry) (c : Nat) (q : List Entry) :
    settleNew e c (setQueue q d) = setQueue q (settleNew e c d) := by
  unfold settleNew
  dsimp only
  rw [apply_ite (setQueue q), ← raiseCause_setQueue]
  rfl

theorem dropEntry_setQueue (e : Entry) (q : List Entry) :
    dropEntry e (setQueue q d) = setQueue q (dropEntry e d) := by
  unfold dropEntry
  rw [← raiseCause_setQueue]
  rfl

/-- A settle neither reads nor changes the queue (R121 to R128: the entry has left it). -/
theorem settle_setQueue (e : Entry) (q : List Entry) : settle e (setQueue q d) = setQueue q (settle e d) := by
  have count : coincidence (setQueue q d) e.stamp = coincidence d e.stamp := rfl
  have table : (setQueue q d).engine.table = d.engine.table := rfl
  unfold settle
  rw [count, table]
  dsimp only
  split_ifs
  · exact rackEvent_setQueue d e q
  · exact settleFound_setQueue d e _ q
  · exact settleNew_setQueue d e _ q
  · cases evictionChoice d.engine.table with
    | some r => exact settleNew_setQueue (evict r d) e _ q
    | none => exact dropEntry_setQueue d e q

@[simp] theorem settle_queue (e : Entry) : (settle e d).engine.queue = d.engine.queue := by
  have h := settle_setQueue d e d.engine.queue
  rw [setQueue_self] at h
  rw [h]
  rfl

theorem settle_jobState (e : Entry) : (settle e d).job.state = d.job.state := by rw [settle_job]

theorem foldl_settle_setQueue (es : List Entry) (q : List Entry) :
    es.foldl (fun x e => settle e x) (setQueue q d) = setQueue q (es.foldl (fun x e => settle e x) d) := by
  induction es generalizing d with
  | nil => rfl
  | cons e es ih => rw [List.foldl_cons, settle_setQueue, ih, List.foldl_cons]

theorem foldl_settle_queue (es : List Entry) :
    (es.foldl (fun x e => settle e x) d).engine.queue = d.engine.queue := by
  have h := foldl_settle_setQueue d es d.engine.queue
  rw [setQueue_self] at h
  rw [h]
  rfl

theorem foldl_settle_jobState (es : List Entry) :
    (es.foldl (fun x e => settle e x) d).job.state = d.job.state := by
  induction es generalizing d with
  | nil => rfl
  | cons e es ih => rw [List.foldl_cons, ih, settle_jobState]

/-! ### The settles on time (R119) -/

/-- An entry stamped three frames back or earlier, where n is the current frame (R1, R119). -/
def isDue (n : Frame) (e : Entry) : Bool := frameUpTo e.stamp (n - 3)

theorem isDue_iff (n : Frame) (e : Entry) :
    isDue n e = true ↔ 3 ≤ frameAge n e.stamp ∧ frameAge n e.stamp < 2147483651 := by
  have shifted : n - 3 - e.stamp = n - e.stamp - 3 := sub_right_comm n 3 e.stamp
  have three : e.stamp = n - 3 ↔ n - e.stamp = 3 := by
    rw [eq_sub_iff_add_eq, sub_eq_iff_eq_add, add_comm, eq_comm]
  simp only [isDue, frameUpTo, frameEarlier, frameAge, Bool.or_eq_true, decide_eq_true_eq, shifted, three]
  generalize n - e.stamp = age
  bv_omega

theorem settleDue_eq : settleDue d = (d.engine.queue.filter (isDue d.link.frame)).foldl (fun x e => settle e x)
    (setQueue (d.engine.queue.filter fun e => !isDue d.link.frame e) d) := rfl

/-- With no entry due nothing is settled. -/
theorem settleDue_of_none (h : ∀ e ∈ d.engine.queue, isDue d.link.frame e ≠ true) : settleDue d = d := by
  have stay : d.engine.queue.filter (fun e => !isDue d.link.frame e) = d.engine.queue :=
    List.filter_eq_self.2 fun e he => by simpa using h e he
  rw [settleDue_eq, stay, List.filter_eq_nil_iff.2 h, setQueue_self]
  rfl

/-- The first entry due is settled first, out of the queue, and the rest as if it had never stood there. -/
theorem settleDue_step {before after : List Entry} {e : Entry} (hq : d.engine.queue = before ++ [e] ++ after)
    (he : isDue d.link.frame e = true) (hb : ∀ x ∈ before, isDue d.link.frame x ≠ true) :
    settleDue d = settleDue (settle e (setQueue (before ++ after) d)) := by
  have none_before : before.filter (isDue d.link.frame) = [] := List.filter_eq_nil_iff.2 hb
  have frame : (settle e (setQueue (before ++ after) d)).link.frame = d.link.frame := (settle_keeps _ e).frame
  have queue : (setQueue (before ++ after) d).engine.queue = before ++ after := rfl
  rw [settleDue_eq (settle e _), settle_queue, queue, frame, settle_setQueue, setQueue_setQueue, settleDue_eq, hq]
  simp only [List.filter_append, none_before, List.nil_append, List.filter_cons_of_pos he, List.filter_nil,
    List.filter_cons, he, Bool.not_true, Bool.false_eq_true, if_false, List.append_nil, List.singleton_append,
    List.foldl_cons, settle_setQueue, foldl_settle_setQueue]


/-- The settles on time leave the entries that are not due. -/
theorem settleDue_queue : (settleDue d).engine.queue = d.engine.queue.filter fun e => !isDue d.link.frame e := by
  rw [settleDue_eq, foldl_settle_queue]
  rfl

theorem settleDue_jobState : (settleDue d).job.state = d.job.state := foldl_settle_jobState _ _

end Sys2Proof.Machine

namespace Sys2Proof.Proofs

open Sys2Proof.Machine Sys2Proof.Safety

/-- Settles O5: a settle commutes with what is left of the queue, so the settles on time are taken one by one. -/
theorem markSettlesAndOffers : Obligations.MarkSettlesAndOffers := by
  intro d due
  have due_iff : ∀ e, isDue d.link.frame e = true ↔ due e := isDue_iff d.link.frame
  have left : (settleDue d).engine.queue = d.engine.queue.filter (fun e =>
      !decide (3 ≤ frameAge d.link.frame e.stamp ∧ frameAge d.link.frame e.stamp < 2147483651)) := by
    rw [settleDue_queue]
    refine List.filter_congr fun e _ => congrArg _ ?_
    exact Bool.eq_iff_iff.2 ((due_iff e).trans decide_eq_true_iff.symm)
  have emptied : d.engine.queue ≠ [] → (settleDue d).engine.queue = [] → settleMark d = closingTest (settleDue d) :=
    fun some none => if_pos ⟨some, none⟩
  refine ⟨fun h => settleDue_of_none d fun e he => (due_iff e).not.2 (h e he), fun before after e hq he hb => ?first,
    left, fun some all => ?all, fun h => ?some, rfl, fun listen => if_pos listen,
    fun talk => ⟨?offer, fun i => ?notices⟩⟩
  case first => exact settleDue_step d hq ((due_iff e).2 he) fun x hx => (due_iff x).not.2 (hb x hx)
  case all =>
    refine emptied some (left.trans (List.filter_eq_nil_iff.2 fun e he => ?_))
    simpa using all e he
  case some =>
    by_cases reported : d.engine.queue ≠ [] ∧ (settleDue d).engine.queue = []
    · rcases h with none | ⟨e, he, undue⟩ | notClosing
      · exact absurd none reported.1
      · have stays : e ∈ (settleDue d).engine.queue := by
          rw [left]
          exact List.mem_filter.2 ⟨he, by simpa only [Bool.not_eq_true', decide_eq_false_iff_not] using undue⟩
        rw [reported.2] at stays
        exact absurd stays List.not_mem_nil
      · rw [emptied reported.1 reported.2]
        exact closingTest_of_state_ne _ (by rwa [settleDue_jobState])
    · exact if_neg reported
  case offer =>
    rw [offerAll, offer, if_neg talk]
  case notices =>
    rw [offerAll, offer_link, ← passesTest_iff]
    simp [talk]

end Sys2Proof.Proofs
end


section
/-! The end of a transmission (R17, R18, R193): the bits on the line, the bit a collision stops at, and what a clean end
takes from the queues. -/

namespace Sys2Proof.Machine

open Sys2Proof.Safety

/-! ### The bits on the line (R193) -/

/-- Bit i of byte k on the line. -/
theorem getElem?_lineLevels (bs : List Byte) (k i : Nat) (hk : k < bs.length) (hi : i < 10) :
    (lineLevels bs)[10 * k + i]? = (byteLevels bs[k])[i]? := by
  induction bs generalizing k with
  | nil => simp at hk
  | cons b bs ih =>
    rw [lineLevels_cons]
    cases k with
    | zero =>
      rw [List.getElem?_append_left (by simpa using hi)]
      simp
    | succ k =>
      rw [List.getElem?_append_right (by simp; omega), length_byteLevels,
        show 10 * (k + 1) + i - 10 = 10 * k + i by omega, ih k (by simpa using hk)]
      rfl

/-- Bits 1 to 8 of a byte on the line are its bits 0 to 7. -/
theorem getElem?_byteLevels (b : Byte) (j : Fin 8) : (byteLevels b)[1 + j.val]? = some (b.getLsbD j.val) := by
  fin_cases j <;> rfl

/-! ### The moment of a bit (R8, R16) -/

/-- When the first bit of the own message begins. -/
def messageStart (d : Device) : Nat := d.link.previousMark.getD 0 + d.link.bay.toNat * 10000 + 1000

theorem bitMoment_eq (d : Device) (k : Nat) : bitMoment d k = messageStart d + 10 * k := by
  simp only [bitMoment, messageStart, Config.slotPeriod, Config.ownStart, Config.bitTime, Nat.mul_comm]

theorem bitAt_eq (d : Device) : bitAt d = (d.now - messageStart d) / 10 := by
  rw [bitAt, bitMoment_eq]
  rfl

/-- Bit k is being driven through the ten clock periods from its moment on. -/
theorem bitAt_of_now {d : Device} {k r : Nat} (hr : r < 10) (h : d.now = messageStart d + 10 * k + r) :
    bitAt d = k := by
  rw [bitAt_eq, h]
  omega

/-! ### A collision (R17) -/

theorem collide_of_none {d : Device} (h : d.link.flight = none) : collide d = d := by
  rw [collide, h]

/-- A message of no bytes has no bit to collide at. -/
theorem collide_of_empty {d : Device} {f : Flight} (h : d.link.flight = some f) (hb : f.bytes = []) :
    collide d = d := by
  have none : f.levels = [] := by rw [Flight.levels, hb, lineLevels_nil]
  rw [collide, h]
  simp [none, firstDifference]

/-- A collision is at the bit being driven, the last where none is. -/
theorem collide_of_bytes {d : Device} {f : Flight} (h : d.link.flight = some f) (hb : f.bytes ≠ []) :
    collide d = stopAtBit (min (bitAt d) (10 * f.bytes.length - 1)) d := by
  have length : f.levels.length = 10 * f.bytes.length := length_lineLevels f.bytes
  have some_bytes : 0 < f.bytes.length := List.length_pos_iff.2 hb
  have found : firstDifference f.levels (levelsAtCollision f d) = some (min (bitAt d) (10 * f.bytes.length - 1)) := by
    rw [levelsAtCollision, length]
    exact firstDifference_modify _ _ (by omega)
  rw [collide, h]
  dsimp only
  rw [found]

theorem stopAtBit_eq (k : Nat) (d : Device) : stopAtBit k d = { d with
    link := { d.link with flight := none, collided := true, errors := d.link.errors ||| 0x100 },
    now := max d.now (messageStart d + 10 * (k + 1)) } := by
  rw [← bitMoment_eq]
  rfl

/-! ### A DISTURB entry after its item was sent (R18, R23) -/

/-- Whether a DISTURB entry has a source. -/
def Disturb.has (src : Source) (e : Disturb) : Bool :=
  match src with
  | .rail => e.rail
  | .burst => e.burst

/-- Whether a list of entries names a source for a frame. -/
def sourceNamed (src : Source) (g : Frame) (q : List Disturb) : Prop := ∃ e ∈ q, e.frame = g ∧ e.has src = true

/-- A sent entry leaves a source of its frame exactly where that source was not sent. -/
theorem unsentPart_has_iff {sent : List Disturb} (hp : sent.Pairwise fun a b => a.frame ≠ b.frame) (src : Source)
    (g : Frame) (e : Disturb) : (∃ e', unsentPart sent e = some e' ∧ e'.frame = g ∧ e'.has src = true) ↔
      (e.frame = g ∧ e.has src = true) ∧ ¬sourceNamed src g sent := by
  unfold unsentPart
  cases hf : sent.find? fun s => s.frame == e.frame with
  | none =>
    have none_sent : ∀ x ∈ sent, x.frame ≠ e.frame := by simpa using List.find?_eq_none.1 hf
    simp only [Option.some.injEq, exists_eq_left']
    refine (and_iff_left_of_imp ?_).symm
    rintro ⟨rfl, -⟩ ⟨x, hx, frame, -⟩
    exact none_sent x hx frame
  | some s =>
    have hs : s ∈ sent := List.mem_of_find?_eq_some hf
    have frame : s.frame = e.frame := by simpa using List.find?_some hf
    have only : ∀ x ∈ sent, x.frame = e.frame → x = s := fun x hx h => by
      by_contra ne
      have distinct : Std.Symm fun a b : Disturb => a.frame ≠ b.frame := ⟨fun _ _ h => h.symm⟩
      exact hp.forall hx hs ne (h.trans frame.symm)
    have named : e.frame = g → (sourceNamed src g sent ↔ s.has src = true) := by
      rintro rfl
      exact ⟨fun ⟨x, hx, hxe, has⟩ => only x hx hxe ▸ has, fun has => ⟨s, hs, frame, has⟩⟩
    dsimp only
    constructor
    · rintro ⟨e', he', rfl, has⟩
      split_ifs at he'
      cases he'
      have left : e.has src = true ∧ s.has src = false := by cases src <;> simpa [Disturb.has] using has
      exact ⟨⟨rfl, left.1⟩, by rw [named rfl]; simp [left.2]⟩
    · rintro ⟨⟨rfl, has⟩, unsent⟩
      rw [named rfl, Bool.not_eq_true] at unsent
      refine ⟨⟨e.frame, e.rail && !s.rail, e.burst && !s.burst⟩, if_pos ?_, rfl, ?_⟩ <;>
        cases src <;> simp_all [Disturb.has]

/-- The sources left in the queue after a clean end (R18, R23). -/
theorem sourceNamed_filterMap_iff {sent : List Disturb} (hp : sent.Pairwise fun a b => a.frame ≠ b.frame)
    (src : Source) (g : Frame) (q : List Disturb) :
    sourceNamed src g (q.filterMap (unsentPart sent)) ↔ sourceNamed src g q ∧ ¬sourceNamed src g sent := by
  have step := unsentPart_has_iff hp src g
  constructor
  · rintro ⟨e', he', left⟩
    obtain ⟨e, he, part⟩ := List.mem_filterMap.1 he'
    obtain ⟨has, unsent⟩ := (step e).1 ⟨e', part, left⟩
    exact ⟨⟨e, he, has⟩, unsent⟩
  · rintro ⟨⟨e, he, has⟩, unsent⟩
    obtain ⟨e', part, left⟩ := (step e).2 ⟨has, unsent⟩
    exact ⟨e', List.mem_filterMap.2 ⟨e, he, part⟩, left⟩

/-! ### A clean end (R18, R151) -/

theorem transmissionEnd_of_none {d : Device} (h : d.link.flight = none) : transmissionEnd d = d := by
  rw [transmissionEnd, h]

theorem transmissionEnd_of_some {d : Device} {f : Flight} (h : d.link.flight = some f) :
    transmissionEnd d = atMoment (messageStart d + 100 * f.bytes.length) (sentClean f d) := by
  have length : f.levels.length = 10 * f.bytes.length := length_lineLevels f.bytes
  rw [transmissionEnd, h]
  dsimp only
  rw [bitMoment_eq, length, ← Nat.mul_assoc]

/-- An own ASK noted touches the frame note of the own slot alone. -/
theorem noteOwnAsk_eq (ask : Option Nat) (d : Device) : noteOwnAsk ask d = { d with
    view := { d.view with notes := (noteOwnAsk ask d).view.notes } } := by
  unfold noteOwnAsk
  split <;> rfl

theorem noteOwnAsk_notes_some (w : Nat) (d : Device) (b : StationId) :
    (noteOwnAsk (some w) d).view.notes[b] = if ownSlot d = some b then .ask w else d.view.notes[b] := by
  unfold noteOwnAsk
  cases ownSlot d with
  | none => rfl
  | some o =>
    refine (getElem_set_fin _ o b _).trans ?_
    simp only [Option.some.injEq, eq_comm]
    rfl

theorem notifyCauses_records (m : CauseSet) (u : CauseUnit) (i : Fin 15) : (notifyCauses m u).records[i] =
    { u.records[i] with notified := u.records[i].notified || m.getLsbD (i.val + 1) } := by
  cases h : m.getLsbD (i.val + 1) <;> simp [notifyCauses, isQueued, h]

end Sys2Proof.Machine

namespace Sys2Proof.Proofs

open Sys2Proof.Machine Sys2Proof.Safety

/-- Settles O14: the bits follow from the bytes and the time, and the two ends of a transmission from the bit they come
at. -/
theorem transmissionEnds : Obligations.TransmissionEnds := by
  have run : ∀ {s : State} {f : Device → Device} {x : Device}, f s.toDevice = x →
      onDevice f s = .next { s with toDevice := x } := fun h => h ▸ rfl
  refine ⟨fun bs k => ⟨length_lineLevels bs, ?start, fun j => ?data, ?stop⟩,
    fun s f hf => ⟨fun k r hr now => ?level, fun some_bytes => ?collision,
      fun empty => run (collide_of_empty hf empty)⟩,
    fun s hf => ⟨run (collide_of_none hf), run (transmissionEnd_of_none hf), ?quiet⟩, fun s f hf hp => ?clean⟩
  case start => exact getElem?_lineLevels bs k.val 0 k.isLt (by omega)
  case data =>
    rw [Nat.add_assoc]
    exact (getElem?_lineLevels bs k.val _ k.isLt (by omega)).trans (getElem?_byteLevels _ j)
  case stop => exact getElem?_lineLevels bs k.val 9 k.isLt (by omega)
  case level =>
    rw [messageLevel, hf]
    dsimp only
    rw [bitAt_of_now hr now]
    rfl
  case collision =>
    refine ⟨_, rfl, run ?_⟩
    rw [collide_of_bytes hf some_bytes, stopAtBit_eq, bitAt_eq]
    rfl
  case quiet => rw [messageLevel, hf]
  case clean =>
    have ended := transmissionEnd_of_some hf
    refine ⟨_, run ended, ?_, ?_, fun g => ⟨?_, ?_⟩, ⟨?_, fun i => ?_⟩, ?_, fun b => ?_⟩
    · rw [sentClean, noteOwnAsk_eq]; rfl
    · rw [sentClean, noteOwnAsk_eq]; rfl
    · rw [sentClean, noteOwnAsk_eq]
      exact sourceNamed_filterMap_iff hp .rail g s.link.disturbs
    · rw [sentClean, noteOwnAsk_eq]
      exact sourceNamed_filterMap_iff hp .burst g s.link.disturbs
    · rw [sentClean, noteOwnAsk_eq]; rfl
    · rw [sentClean, noteOwnAsk_eq]
      exact notifyCauses_records f.notices s.causes i
    · rw [sentClean, noteOwnAsk_eq]; rfl
    · rw [sentClean]
      cases f.ask with
      | none => rfl
      | some w => exact noteOwnAsk_notes_some w _ b

end Sys2Proof.Proofs
end


section
/-! An event in the attribution engine (R111, R112, R116 to R118, R135): the queue takes it, and then the tally of its
stamp. -/

namespace Sys2Proof.Machine

open Sys2Proof.Safety

variable (d : Device)

/-- Devices that agree in every block are equal. -/
theorem device_eq {a b : Device} (link : a.link = b.link) (view : a.view = b.view) (power : a.power = b.power)
    (pattern : a.pattern = b.pattern) (lanes : a.lanes = b.lanes) (captures : a.captures = b.captures)
    (pins : a.pins = b.pins) (engine : a.engine = b.engine) (causes : a.causes = b.causes) (job : a.job = b.job)
    (bench : a.bench = b.bench) (now : a.now = b.now) : a = b := by
  cases a
  cases b
  simp_all

/-! ### What a settle leaves of the link, the tallies and the job -/

theorem settleNew_link (e : Entry) (c : Nat) : (settleNew e c d).link =
    { d.link with notices := (settleNew e c d).link.notices } := by
  unfold settleNew
  dsimp only
  split_ifs
  · rw [raiseCause_link]; rfl
  · rfl

/-- A settle touches the link controller's notice queue alone. -/
theorem settle_link (e : Entry) : (settle e d).link = { d.link with notices := (settle e d).link.notices } := by
  rcases settle_cases d e with ⟨-, h⟩ | ⟨-, -, h⟩ | ⟨-, -, ⟨-, h⟩ | ⟨-, ⟨r, -, h⟩ | ⟨-, h⟩⟩⟩ <;> rw [h]
  · rw [rackEvent_eq, raiseCause_link]; rfl
  · unfold settleFound
    dsimp only
    split_ifs
    · rw [raiseCause_link]; rfl
    · rfl
  · exact settleNew_link d e _
  · exact settleNew_link (evict r d) e _
  · rw [dropEntry, raiseCause_link]; rfl

/-- The burst tallies of an engine. -/
def tallies (g : Engine) : Tally × Tally := (g.tallyNow, g.tallyBefore)

theorem settleNew_tallies (e : Entry) (c : Nat) : tallies (settleNew e c d).engine = tallies d.engine := by
  unfold settleNew
  dsimp only
  split_ifs <;> simp [tallies]

theorem settle_tallies (e : Entry) : tallies (settle e d).engine = tallies d.engine := by
  rcases settle_cases d e with ⟨-, h⟩ | ⟨-, -, h⟩ | ⟨-, -, ⟨-, h⟩ | ⟨-, ⟨r, -, h⟩ | ⟨-, h⟩⟩⟩ <;> rw [h]
  · rw [rackEvent_eq, raiseCause_engine]; rfl
  · unfold settleFound
    dsimp only
    split_ifs <;> simp [tallies]
  · exact settleNew_tallies d e _
  · exact settleNew_tallies (evict r d) e _
  · rw [dropEntry, raiseCause_engine]; rfl

/-! ### An early settle (R117) -/

/-- The early settle of the head: the settle, its cause and its count. -/
theorem earlySettle_cons {e : Entry} {rest : List Entry} (h : d.engine.queue = e :: rest) :
    earlySettle d =
      let settled := settle e (setQueue rest d)
      setEngine { settled.engine with earlySettles := settled.engine.earlySettles + 1 }
        (raiseCause .earlySettle settled) := by
  unfold earlySettle
  rw [h]
  dsimp only
  rw [raiseCause_engine]
  rfl

theorem earlySettle_nil (h : d.engine.queue = []) : earlySettle d = d := by
  unfold earlySettle
  rw [h]

theorem earlySettle_link : (earlySettle d).link = { d.link with notices := (earlySettle d).link.notices } := by
  cases h : d.engine.queue with
  | nil => rw [earlySettle_nil d h]
  | cons e rest =>
    rw [earlySettle_cons d h]
    dsimp only
    rw [setEngine_link, raiseCause_link, settle_link]
    rfl

theorem earlySettle_tallies : tallies (earlySettle d).engine = tallies d.engine := by
  cases h : d.engine.queue with
  | nil => rw [earlySettle_nil d h]
  | cons e rest =>
    rw [earlySettle_cons d h]
    exact settle_tallies (setQueue rest d) e

theorem earlySettle_job : (earlySettle d).job = { d.job with rackEvents := (earlySettle d).job.rackEvents } := by
  cases h : d.engine.queue with
  | nil => rw [earlySettle_nil d h]
  | cons e rest =>
    rw [earlySettle_cons d h]
    dsimp only
    rw [setEngine_job, raiseCause_job, settle_job]
    rfl

/-! ### The queue's part of an event (R116 to R118) -/

/-- The queue's part of an event. -/
def queueEvent (l : Locus) (f : Frame) (d : Device) : Device :=
  if d.engine.queue.any (matchesEntry l f) then setQueue (mergeEntry l f d.engine.queue) d
  else if Config.queueLimit ≤ d.engine.queue.length then enqueue l f (earlySettle d)
  else enqueue l f d

theorem takeEvent_eq (l : Locus) (f : Frame) : takeEvent l f d = tallyEvent l f (queueEvent l f d) := rfl

theorem queueEvent_link (l : Locus) (f : Frame) : (queueEvent l f d).link =
    { d.link with notices := (queueEvent l f d).link.notices } := by
  unfold queueEvent
  split_ifs
  · rfl
  · rw [enqueue_link]; exact earlySettle_link d
  · rfl

theorem queueEvent_tallies (l : Locus) (f : Frame) : tallies (queueEvent l f d).engine = tallies d.engine := by
  unfold queueEvent
  split_ifs
  · rfl
  · exact earlySettle_tallies d
  · rfl

theorem queueEvent_job (l : Locus) (f : Frame) : (queueEvent l f d).job =
    { d.job with rackEvents := (queueEvent l f d).job.rackEvents } := by
  unfold queueEvent
  split_ifs
  · rfl
  · exact earlySettle_job d
  · rfl

/-- Where one entry alone is of the locus and stamp, it is the one that the event merges into. -/
theorem mergeEntry_eq {l : Locus} {f : Frame} {before after : List Entry} {e : Entry}
    (he : matchesEntry l f e = true) (others : ∀ x ∈ before ++ after, matchesEntry l f x ≠ true) :
    mergeEntry l f (before ++ [e] ++ after) =
      before ++ [{ e with occurrences := min 255 (e.occurrences + 1) }] ++ after := by
  have stand : ∀ q : List Entry, (∀ x ∈ q, matchesEntry l f x ≠ true) → mergeEntry l f q = q := fun q h =>
    (List.map_congr_left fun x hx => if_neg (h x hx)).trans (List.map_id q)
  have first := stand before fun x hx => others x (List.mem_append_left _ hx)
  have last := stand after fun x hx => others x (List.mem_append_right _ hx)
  unfold mergeEntry at *
  rw [List.map_append, List.map_append, first, last, List.map_singleton, if_pos he]

/-- A new entry's place (R116). -/
theorem insertEntry_eq {e : Entry} {before after : List Entry}
    (hb : ∀ x ∈ before, frameEarlier e.stamp x.stamp = false)
    (ha : ∀ x ∈ after.take 1, frameEarlier e.stamp x.stamp = true) :
    insertEntry e (before ++ after) = before ++ e :: after := by
  induction before with
  | nil =>
    cases after with
    | nil => rfl
    | cons a after => exact if_pos (ha a (by simp))
  | cons b before ih =>
    have skip : ¬frameEarlier e.stamp b.stamp = true := by simp [hb b (by simp)]
    exact (if_neg skip).trans (congrArg _ (ih fun x hx => hb x (List.mem_cons_of_mem _ hx)))

/-! ### The snapshot of a new entry (R118) -/

theorem lowestFree_eq_none {pool : Vector Snapshot 8} (h : lowestFree pool = none) (j : Fin 8) : pool[j] ≠ .free := by
  simpa using List.find?_eq_none.1 h j (List.mem_finRange j)

theorem lowestFree_eq_some {pool : Vector Snapshot 8} {j : Fin 8} (h : lowestFree pool = some j) :
    pool[j] = .free ∧ ∀ m : Fin 8, m < j → pool[m] ≠ .free := by
  obtain ⟨free, i, hi, hij, below⟩ := List.find?_eq_some_iff_getElem.1 h
  have place : j.val = i := by simp [← hij]
  refine ⟨by simpa using free, fun m hm => ?_⟩
  have hm' : m.val < i := place ▸ hm
  simpa using below m.val hm'

/-- Whether the engine knows a locus: by a record or by a queue entry (R118). -/
def locusKnown (l : Locus) (g : Engine) : Prop := (∃ r ∈ g.table, r.locus = l) ∨ ∃ e ∈ g.queue, e.locus = l

theorem snapshotFor_of_known {l : Locus} {g : Engine} (h : locusKnown l g) : snapshotFor l g = none :=
  if_pos (by simpa [hasRecord, locusKnown] using h)

theorem snapshotFor_of_unknown {l : Locus} {g : Engine} (h : ¬locusKnown l g) : snapshotFor l g = lowestFree g.pool :=
  if_neg (by simpa [hasRecord, locusKnown] using h)

/-- The pool after a new entry took the snapshot that is due to it (R118, R135). -/
theorem enqueue_pool (l : Locus) (f : Frame) :
    (snapshotFor l d.engine = none → (enqueue l f d).engine.pool = d.engine.pool ∧
      (locusKnown l d.engine ∨ ∀ j : Fin 8, d.engine.pool[j] ≠ .free)) ∧
    ∀ j : Fin 8, snapshotFor l d.engine = some j → ¬locusKnown l d.engine ∧ d.engine.pool[j] = .free ∧
      (∀ m : Fin 8, m < j → d.engine.pool[m] ≠ .free) ∧
      (enqueue l f d).engine.pool = d.engine.pool.set j (.linked (conditionsNow f d)) := by
  by_cases known : locusKnown l d.engine
  · have none := snapshotFor_of_known known
    refine ⟨fun _ => ⟨?_, .inl known⟩, fun j hj => ?_⟩
    · rw [enqueue, none]; rfl
    · rw [none] at hj; cases hj
  · have lowest := snapshotFor_of_unknown known
    rw [lowest]
    refine ⟨fun none => ⟨?_, .inr (lowestFree_eq_none none)⟩, fun j hj => ?_⟩
    · rw [enqueue, lowest, none]; rfl
    · obtain ⟨free, below⟩ := lowestFree_eq_some hj
      refine ⟨known, free, below, ?_⟩
      rw [enqueue, lowest, hj]; rfl

/-! ### The tally's part of an event (R111, R112) -/

/-- The loci of a tally that an event of a locus has joined. -/
def lociWith (l : Locus) (t : Tally) : List Locus := if l ∈ t.loci then t.loci else t.loci ++ [l]

/-- A tally that an event of a locus has joined (R112). -/
def grownTally (l : Locus) (t : Tally) : Tally := ⟨lociWith l t, t.requested || decide (3 ≤ (lociWith l t).length)⟩

/-- Whether that event makes it request a BURST (R112). -/
def fillsTally (l : Locus) (t : Tally) : Prop := 3 ≤ (lociWith l t).length ∧ t.requested = false

theorem add_eq (l : Locus) (t : Tally) : t.add l = ⟨lociWith l t, t.requested⟩ := by
  unfold Tally.add lociWith
  by_cases h : l ∈ t.loci <;> simp [h]

theorem add_bursts_iff (l : Locus) (t : Tally) : (t.add l).bursts = true ↔ fillsTally l t := by
  simp [Tally.bursts, add_eq, fillsTally]

theorem add_eq_grownTally (l : Locus) (t : Tally) :
    { t.add l with requested := (t.add l).requested || (t.add l).bursts } = grownTally l t := by
  unfold grownTally Tally.bursts
  rw [add_eq]
  cases t.requested <;> simp

/-- An event's tally requests a BURST for its frame. -/
def burstsAt (l : Locus) (f : Frame) (d : Device) : Prop :=
  (f = d.link.frame ∧ fillsTally l d.engine.tallyNow) ∨ (f = d.link.frame - 1 ∧ fillsTally l d.engine.tallyBefore)

theorem frame_ne_pred (n : Frame) : n ≠ n - 1 := by bv_omega

theorem tallyEvent_eq (l : Locus) (f : Frame) : tallyEvent l f d = { d with
    engine := { d.engine with
      tallyNow := (tallyEvent l f d).engine.tallyNow, tallyBefore := (tallyEvent l f d).engine.tallyBefore },
    link := { d.link with disturbs := (tallyEvent l f d).link.disturbs } } := by
  unfold tallyEvent requestDisturb
  dsimp only
  split_ifs <;> rfl

theorem tallyEvent_now_eq (l : Locus) (f : Frame) : (tallyEvent l f d).engine.tallyNow =
    if f = d.link.frame then grownTally l d.engine.tallyNow else d.engine.tallyNow := by
  unfold tallyEvent
  dsimp only
  split_ifs <;> simp [add_eq_grownTally]

theorem tallyEvent_before_eq (l : Locus) (f : Frame) : (tallyEvent l f d).engine.tallyBefore =
    if f = d.link.frame - 1 then grownTally l d.engine.tallyBefore else d.engine.tallyBefore := by
  unfold tallyEvent
  dsimp only
  by_cases now : f = d.link.frame
  · have later : f ≠ d.link.frame - 1 := now ▸ frame_ne_pred f
    rw [if_pos now, if_neg later]
    split_ifs <;> simp
  · rw [if_neg now]
    split_ifs <;> simp [add_eq_grownTally]

/-- A tally that is filled requests a BURST, but in LISTEN-ONLY (R24, R112). -/
theorem tallyEvent_disturbs_of_burst {l : Locus} {f : Frame} (h : burstsAt l f d) (talk : d.link.mode ≠ .listenOnly) :
    (tallyEvent l f d).link.disturbs = disturbRequest d.link.frame f .burst d.link.disturbs := by
  unfold tallyEvent
  dsimp only
  rcases h with ⟨now, fills⟩ | ⟨before, fills⟩
  · rw [if_pos now, if_pos ((add_bursts_iff _ _).2 fills), requestDisturb_link]
    exact if_neg talk
  · have earlier : f ≠ d.link.frame := fun now => frame_ne_pred _ (now.symm.trans before)
    rw [if_neg earlier, if_pos before, if_pos ((add_bursts_iff _ _).2 fills), requestDisturb_link]
    exact if_neg talk

theorem tallyEvent_disturbs_of_not {l : Locus} {f : Frame} (h : ¬burstsAt l f d ∨ d.link.mode = .listenOnly) :
    (tallyEvent l f d).link.disturbs = d.link.disturbs := by
  have silent : burstsAt l f d → ∀ g : Engine, (requestDisturb f .burst (setEngine g d)).link.disturbs =
      d.link.disturbs := fun hb g => by
    rw [requestDisturb_link]
    exact if_pos (h.resolve_left (not_not.2 hb))
  unfold tallyEvent
  dsimp only
  split_ifs with now fills before fills
  · exact silent (.inl ⟨now, (add_bursts_iff _ _).1 fills⟩) _
  · rfl
  · exact silent (.inr ⟨before, (add_bursts_iff _ _).1 fills⟩) _
  · rfl
  · rfl

/-- A request for the current frame or the one before: it joins the entry of its frame, or makes one (R23). -/
theorem disturbRequest_joins {n f : Frame} {src : Source} {q : List Disturb} (hf : f = n ∨ f = n - 1)
    (h : ∃ e ∈ q, e.frame = f) :
    disturbRequest n f src q = q.map fun e => if e.frame = f then e.add src else e := by
  unfold disturbRequest
  rw [if_neg (by tauto), if_pos (by simpa using h)]

theorem disturbRequest_makes {n f : Frame} {src : Source} {q : List Disturb} (hf : f = n ∨ f = n - 1)
    (h : ∀ e ∈ q, e.frame ≠ f) : disturbRequest n f src q =
      if f = n then q ++ [Disturb.add src ⟨f, false, false⟩] else Disturb.add src ⟨f, false, false⟩ :: q := by
  unfold disturbRequest
  rw [if_neg (by tauto), if_neg (by simpa using h)]

/-! ### An event, by the way the queue takes it -/

theorem matchesEntry_iff (l : Locus) (f : Frame) (e : Entry) : matchesEntry l f e = true ↔ e.locus = l ∧ e.stamp = f :=
  decide_eq_true_iff

/-- An event touches the engine, the causes, the job's rack events and the two queues of the link controller. -/
theorem takeEvent_frame (l : Locus) (f : Frame) : takeEvent l f d = { d with
    engine := (takeEvent l f d).engine, causes := (takeEvent l f d).causes,
    job := { d.job with rackEvents := (takeEvent l f d).job.rackEvents },
    link := { d.link with disturbs := (takeEvent l f d).link.disturbs,
                          notices := (takeEvent l f d).link.notices } } := by
  have job : (takeEvent l f d).job = { d.job with rackEvents := (takeEvent l f d).job.rackEvents } := by
    rw [takeEvent_eq, tallyEvent_job, queueEvent_job]
  exact device_eq (takeEvent_keeps d l f).link (by simp) (by simp) (by simp) (by simp) (by simp) (by simp) rfl rfl job
    (by simp) (by simp)

theorem takeEvent_merges {l : Locus} {f : Frame} {before after : List Entry} {e : Entry}
    (hq : d.engine.queue = before ++ [e] ++ after) (he : matchesEntry l f e = true)
    (others : ∀ x ∈ before ++ after, matchesEntry l f x ≠ true) : takeEvent l f d = tallyEvent l f
      (setQueue (before ++ [{ e with occurrences := min 255 (e.occurrences + 1) }] ++ after) d) := by
  have found : d.engine.queue.any (matchesEntry l f) = true := List.any_eq_true.2 ⟨e, by simp [hq], he⟩
  rw [takeEvent_eq, queueEvent, if_pos found, hq, mergeEntry_eq he others]

theorem takeEvent_enqueues {l : Locus} {f : Frame} (none : ∀ x ∈ d.engine.queue, matchesEntry l f x ≠ true)
    (room : d.engine.queue.length < 32) : takeEvent l f d = tallyEvent l f (enqueue l f d) := by
  have missing : ¬d.engine.queue.any (matchesEntry l f) = true := by simpa using none
  rw [takeEvent_eq, queueEvent, if_neg missing, if_neg (by simpa [Config.queueLimit] using room)]

/-- In a full queue the head is settled early, and then the event is taken (R117). -/
theorem takeEvent_settles {l : Locus} {f : Frame} {e : Entry} {rest : List Entry} (hq : d.engine.queue = e :: rest)
    (full : rest.length = 31) (none : ∀ x ∈ d.engine.queue, matchesEntry l f x ≠ true) :
    takeEvent l f d = takeEvent l f (earlySettle d) := by
  have left : (earlySettle d).engine.queue = rest := by
    rw [earlySettle_cons d hq]
    exact settle_queue (setQueue rest d) e
  have missing : ¬d.engine.queue.any (matchesEntry l f) = true := by simpa using none
  rw [takeEvent_enqueues (earlySettle d) (by rw [left]; exact fun x hx => none x (by simp [hq, hx]))
    (by rw [left]; omega), takeEvent_eq, queueEvent, if_neg missing, if_pos (by simp [hq, full, Config.queueLimit])]

end Sys2Proof.Machine

namespace Sys2Proof.Proofs

open Sys2Proof.Machine Sys2Proof.Safety

/-- Settles O23: the queue takes the event in one of three ways, none of which touches a tally or a DISTURB request; the
tally comes after. -/
theorem eventsAreQueuedAndTallied : Obligations.EventsAreQueuedAndTallied := by
  intro l f d d' queue here known conditions loci grown full bursts
  have others : ∀ {xs : List Entry}, (∀ x ∈ xs, ¬here x) → ∀ x ∈ xs, matchesEntry l f x ≠ true :=
    fun h x hx => (matchesEntry_iff l f x).not.2 (h x hx)
  have link := queueEvent_link d l f
  have frame : (queueEvent l f d).link.frame = d.link.frame := by rw [link]
  have mode : (queueEvent l f d).link.mode = d.link.mode := by rw [link]
  have disturbs : (queueEvent l f d).link.disturbs = d.link.disturbs := by rw [link]
  obtain ⟨now, before⟩ := Prod.mk.inj (queueEvent_tallies d l f)
  have bursts_iff : burstsAt l f (queueEvent l f d) ↔ bursts := by
    unfold burstsAt
    rw [frame, now, before]
    rfl
  refine ⟨takeEvent_frame d l f, fun before after e hq he hx => ?merge, fun before after hq hx room hb ha => ?new,
    fun e rest hq full hx => ?early, ?now, ?before, fun h => ?silent,
    fun hb talk => ⟨fun old => ?joins, fun new => ?makes⟩⟩
  case merge =>
    have merged := takeEvent_merges d hq ((matchesEntry_iff l f e).2 he) (others hx)
    rw [show d' = _ from merged, tallyEvent_eq]
    rfl
  case new =>
    have entered : d' = tallyEvent l f (enqueue l f d) := takeEvent_enqueues d (others hx) room
    have placed : (enqueue l f d).engine.queue =
        before ++ [⟨l, f, 1, d.power.band, snapshotFor l d.engine⟩] ++ after := by
      have inserted := insertEntry_eq (e := ⟨l, f, 1, d.power.band, snapshotFor l d.engine⟩) hb ha
      rw [← hq] at inserted
      exact inserted.trans (by simp)
    have pool := enqueue_pool d l f
    rw [entered, tallyEvent_eq]
    refine ⟨snapshotFor l d.engine, ?_, pool.1, pool.2⟩
    rw [← placed]
    rfl
  case early =>
    refine ⟨earlySettle d, takeEvent_settles d hq full (others hx), ?_⟩
    rw [earlySettle_cons d hq]
    refine ⟨occurred_raiseCause _ .earlySettle, ?_⟩
    dsimp only
    rw [raiseCause_eq]
    rfl
  case now =>
    refine (tallyEvent_now_eq (queueEvent l f d) l f).trans ?_
    rw [frame, now]
    rfl
  case before =>
    refine (tallyEvent_before_eq (queueEvent l f d) l f).trans ?_
    rw [frame, before]
    rfl
  case silent =>
    refine (tallyEvent_disturbs_of_not (queueEvent l f d) ?_).trans disturbs
    rwa [bursts_iff, mode]
  all_goals
    have requested : d'.link.disturbs = disturbRequest d.link.frame f .burst d.link.disturbs := by
      rw [← frame, ← disturbs]
      exact tallyEvent_disturbs_of_burst (queueEvent l f d) (bursts_iff.2 hb) (by rwa [mode])
    have hf : f = d.link.frame ∨ f = d.link.frame - 1 := hb.imp And.left And.left
    rw [requested]
  case joins => exact disturbRequest_joins hf old
  case makes => exact disturbRequest_makes hf new

end Sys2Proof.Proofs
end


section
/-! Converter samples and their supervision (R51 to R54, R57, R168). -/

namespace Sys2Proof.Machine

open Sys2Proof.Safety

variable (d : Device)

/-! ### Causes and the power block -/

theorem raiseCause_setPower (c : Cause) (p : Power) :
    raiseCause c (setPower p d) = setPower p (raiseCause c d) := by
  unfold raiseCause offer
  dsimp only [setPower]
  split_ifs <;> rfl

theorem fullScaleCause_setPower (was : Bool) (v : Nat) (p : Power) :
    fullScaleCause was v (setPower p d) = setPower p (fullScaleCause was v d) := by
  unfold fullScaleCause
  rw [apply_ite (setPower p), ← raiseCause_setPower]

theorem raiseCause_records_of_ne {c : Cause} {j : Fin 15} (h : j ≠ c.index) :
    (raiseCause c d).causes.records[j] = d.causes.records[j] := (occurred_raiseCause d c).2.1 j h

theorem raiseCause_records_self (c : Cause) :
    (raiseCause c d).causes.records[c.index] = happened d.causes.records[c.index] := (occurred_raiseCause d c).2.2

/-! ### The causes that an event may raise: TABLE-OVERFLOW, EARLY-SETTLE, NEW-CONFIRMED and RACK-EVENT -/

/-- The records of the causes that the attribution engine does not raise stand. -/
def OtherCausesStand (d d' : Device) : Prop :=
  ∀ j : Fin 15, j.val < 6 ∨ 9 < j.val → d'.causes.records[j] = d.causes.records[j]

theorem OtherCausesStand.raiseCause {d d' : Device} {c : Cause} (hc : 6 ≤ c.index.val ∧ c.index.val ≤ 9)
    (h : OtherCausesStand d d') : OtherCausesStand d (Machine.raiseCause c d') := fun j hj =>
  (raiseCause_records_of_ne d' fun hjc => by subst hjc; omega).trans (h j hj)

theorem settleNew_otherCauses (e : Entry) (c : Nat) : OtherCausesStand d (settleNew e c d) := by
  unfold settleNew
  dsimp only
  split_ifs
  · exact .raiseCause (by decide) fun _ _ => rfl
  · exact fun _ _ => rfl

theorem settle_otherCauses (e : Entry) : OtherCausesStand d (settle e d) := by
  rcases settle_cases d e with ⟨-, h⟩ | ⟨-, -, h⟩ | ⟨-, -, ⟨-, h⟩ | ⟨-, ⟨r, -, h⟩ | ⟨-, h⟩⟩⟩ <;> rw [h]
  · rw [rackEvent_eq]
    exact .raiseCause (by decide) fun _ _ => rfl
  · unfold settleFound
    dsimp only
    split_ifs
    · exact .raiseCause (by decide) fun _ _ => rfl
    · exact fun _ _ => rfl
  · exact settleNew_otherCauses d e _
  · exact settleNew_otherCauses (evict r d) e _
  · exact .raiseCause (by decide) fun _ _ => rfl

theorem earlySettle_otherCauses : OtherCausesStand d (earlySettle d) := by
  cases h : d.engine.queue with
  | nil => rw [earlySettle_nil d h]; exact fun _ _ => rfl
  | cons e rest =>
    rw [earlySettle_cons d h]
    have settled : OtherCausesStand d (settle e (setQueue rest d)) := settle_otherCauses (setQueue rest d) e
    exact settled.raiseCause (c := .earlySettle) (by decide)

theorem takeEvent_otherCauses (l : Locus) (f : Frame) : OtherCausesStand d (takeEvent l f d) := by
  intro j hj
  rw [takeEvent_eq, tallyEvent_causes, queueEvent]
  split_ifs
  · rfl
  · exact earlySettle_otherCauses d j hj
  · rfl

/-! ### What the engine makes of an event depends on itself, the view, the board, the lanes and the frame alone -/

/-- Devices that the attribution engine cannot tell apart. -/
structure SameForEngine (a b : Device) : Prop where
  engine : a.engine = b.engine
  view : a.view = b.view
  power : a.power = b.power
  lanes : a.lanes = b.lanes
  frame : a.link.frame = b.link.frame

variable {a b : Device}

theorem settleNew_engine_congr (h : a.engine = b.engine) (e : Entry) (c : Nat) :
    (settleNew e c a).engine = (settleNew e c b).engine := by
  unfold settleNew
  simp only [apply_ite Device.engine, raiseCause_engine, setEngine_engine, h]

theorem settle_engine_congr (h : SameForEngine a b) (e : Entry) : (settle e a).engine = (settle e b).engine := by
  have count : coincidence a e.stamp = coincidence b e.stamp := by rw [coincidence, coincidence, h.view, h.frame]
  unfold settle
  rw [count, h.engine]
  dsimp only
  split_ifs
  · simp only [rackEvent_eq, raiseCause_engine, setJob_engine, setEngine_engine, h.engine]
  · unfold settleFound
    simp only [apply_ite Device.engine, raiseCause_engine, setEngine_engine, h.engine]
  · exact settleNew_engine_congr h.engine e _
  · cases evictionChoice b.engine.table with
    | some r =>
      refine settleNew_engine_congr ?_ e _
      rw [evict, evict, setEngine_engine, setEngine_engine, h.engine]
    | none => simp only [dropEntry, raiseCause_engine, setEngine_engine, h.engine]

theorem SameForEngine.setQueue (h : SameForEngine a b) (q : List Entry) :
    SameForEngine (setQueue q a) (setQueue q b) :=
  ⟨by rw [Machine.setQueue, Machine.setQueue, setEngine_engine, setEngine_engine, h.engine],
    h.view, h.power, h.lanes, h.frame⟩

theorem SameForEngine.earlySettle (h : SameForEngine a b) :
    SameForEngine (earlySettle a) (earlySettle b) := by
  refine ⟨?_, by simp [h.view], by simp [h.power], by simp [h.lanes], by
    rw [earlySettle_link, earlySettle_link b]; exact h.frame⟩
  cases hq : b.engine.queue with
  | nil => rw [earlySettle_nil b hq, earlySettle_nil a (h.engine ▸ hq), h.engine]
  | cons e rest =>
    rw [earlySettle_cons b hq, earlySettle_cons a (h.engine ▸ hq)]
    dsimp only
    rw [setEngine_engine, setEngine_engine, settle_engine_congr (h.setQueue rest) e]

theorem SameForEngine.enqueue (h : SameForEngine a b) (l : Locus) (f : Frame) :
    SameForEngine (enqueue l f a) (enqueue l f b) := by
  have conditions : conditionsNow f a = conditionsNow f b := by simp only [conditionsNow, lane, h.power, h.lanes]
  refine ⟨?_, by simp [h.view], by simp [h.power], by simp [h.lanes], by simp [h.frame]⟩
  unfold Machine.enqueue
  rw [conditions, h.engine, h.power]
  rfl

theorem queueEvent_congr (h : SameForEngine a b) (l : Locus) (f : Frame) :
    SameForEngine (queueEvent l f a) (queueEvent l f b) := by
  unfold queueEvent
  rw [h.engine]
  split_ifs
  · exact h.setQueue _
  · exact h.earlySettle.enqueue l f
  · exact h.enqueue l f

theorem takeEvent_engine_congr (h : SameForEngine a b) (l : Locus) (f : Frame) :
    (takeEvent l f a).engine = (takeEvent l f b).engine := by
  obtain ⟨engine, -, -, -, frame⟩ := queueEvent_congr h l f
  rw [takeEvent_eq, takeEvent_eq, tallyEvent_eq, tallyEvent_eq (queueEvent l f b)]
  dsimp only
  rw [tallyEvent_now_eq, tallyEvent_now_eq, tallyEvent_before_eq, tallyEvent_before_eq, engine, frame]

/-! ### An event stands in the queue after it is taken (R116) -/

theorem mem_insertEntry (e : Entry) (q : List Entry) : e ∈ insertEntry e q := by
  induction q with
  | nil => exact List.mem_singleton_self e
  | cons x q ih =>
    unfold insertEntry
    split_ifs
    · exact List.mem_cons_self
    · exact List.mem_cons_of_mem _ ih

theorem queued_enqueue (l : Locus) (f : Frame) : queued (enqueue l f d).engine l f :=
  ⟨_, mem_insertEntry _ _, rfl, rfl⟩

theorem queued_takeEvent (l : Locus) (f : Frame) : queued (takeEvent l f d).engine l f := by
  rw [takeEvent_eq, tallyEvent_eq]
  unfold queueEvent
  split_ifs with found
  · obtain ⟨e, he, hm⟩ := List.any_eq_true.1 found
    have same := (matchesEntry_iff l f e).1 hm
    exact ⟨_, List.mem_map_of_mem he, by rw [if_pos hm]; exact same⟩
  · exact queued_enqueue (earlySettle d) l f
  · exact queued_enqueue d l f

/-! ### DISTURB requests -/

/-- A RAIL request for the current frame or the one before stands in the queue (R23). -/
theorem railRequested_disturbRequest {n f : Frame} (hf : f = n ∨ f = n - 1) (q : List Disturb) :
    railRequested (disturbRequest n f .rail q) f := by
  by_cases old : ∃ e ∈ q, e.frame = f
  · obtain ⟨e, he, hef⟩ := old
    rw [disturbRequest_joins hf ⟨e, he, hef⟩]
    exact ⟨_, List.mem_map_of_mem he, by rw [if_pos hef]; exact ⟨hef, rfl⟩⟩
  · rw [disturbRequest_makes hf fun e he hef => old ⟨e, he, hef⟩]
    refine ⟨Disturb.add .rail ⟨f, false, false⟩, ?_, rfl, rfl⟩
    split_ifs <;> simp

theorem takeEvent_disturbs_of_listenOnly (l : Locus) (f : Frame) (h : d.link.mode = .listenOnly) :
    (takeEvent l f d).link.disturbs = d.link.disturbs := by
  have mode : (queueEvent l f d).link.mode = .listenOnly := by rw [queueEvent_link]; exact h
  rw [takeEvent_eq, tallyEvent_disturbs_of_not (queueEvent l f d) (.inr mode), queueEvent_link]

/-! ### A glitch (R54) -/

/-- A glitch's event is taken by the engine, with the cause RAIL-GLITCH before it and the request after it. -/
def glitchTaken (r : RailId) (f : Frame) (d : Device) : Device :=
  requestDisturb f .rail (takeEvent (.glitch r) f (raiseCause .railGlitch d))

theorem glitchTaken_power (r : RailId) (f : Frame) : (glitchTaken r f d).power = d.power := by
  simp [glitchTaken]

theorem railGlitch_eq (r : RailId) (f : Frame) : railGlitch r f d = setPower { d.power with
    rails := d.power.rails.set r { d.power.rails[r] with run := 0, first := none } } (glitchTaken r f d) := by
  rw [← glitchTaken_power d r f]
  rfl

theorem glitchTaken_engine (r : RailId) (f : Frame) :
    (glitchTaken r f d).engine = (takeEvent (.glitch r) f d).engine := by
  have same : SameForEngine (raiseCause .railGlitch d) d := ⟨by simp, by simp, by simp, by simp, by simp⟩
  exact (requestDisturb_engine ..).trans (takeEvent_engine_congr same _ _)

theorem glitchTaken_causes (r : RailId) (f : Frame) (j : Fin 15) (h : j.val < 6 ∨ 9 < j.val) :
    (glitchTaken r f d).causes.records[j] = (raiseCause .railGlitch d).causes.records[j] := by
  rw [glitchTaken, requestDisturb_causes]
  exact takeEvent_otherCauses _ _ _ j h

theorem glitchTaken_railRequested {r : RailId} {f : Frame} (talk : d.link.mode ≠ .listenOnly)
    (hf : f = d.link.frame ∨ f = d.link.frame - 1) : railRequested (glitchTaken r f d).link.disturbs f := by
  have kept := (raiseCause_keeps d .railGlitch).trans (takeEvent_keeps _ (.glitch r) f)
  have mode := congrArg Link.mode kept.link
  rw [glitchTaken, requestDisturb_link, if_neg (by rw [mode]; exact talk), kept.frame]
  exact railRequested_disturbRequest hf _

theorem glitchTaken_disturbs_of_listenOnly {r : RailId} {f : Frame} (h : d.link.mode = .listenOnly) :
    (glitchTaken r f d).link.disturbs = d.link.disturbs := by
  have mode := congrArg Link.mode
    ((raiseCause_keeps d .railGlitch).trans (takeEvent_keeps _ (.glitch r) f)).link
  rw [glitchTaken, requestDisturb_link, if_pos (mode.trans h),
    takeEvent_disturbs_of_listenOnly _ _ _ (by simpa using h), raiseCause_link_disturbs]

/-- A glitch touches, beside its rail's run, the engine, the causes, the job's rack events and the two queues of the
link controller. -/
theorem glitchTaken_frame (r : RailId) (f : Frame) : glitchTaken r f d = { d with
    engine := (glitchTaken r f d).engine, causes := (glitchTaken r f d).causes,
    job := { d.job with rackEvents := (glitchTaken r f d).job.rackEvents },
    link := { d.link with disturbs := (glitchTaken r f d).link.disturbs,
                          notices := (glitchTaken r f d).link.notices } } := by
  have job : (glitchTaken r f d).job = { d.job with rackEvents := (glitchTaken r f d).job.rackEvents } := by
    rw [glitchTaken, requestDisturb_job, takeEvent_frame, raiseCause_job]
  have kept : WorkKeeps d (glitchTaken r f d) :=
    ((raiseCause_keeps d .railGlitch).trans (takeEvent_keeps _ _ _)).trans (requestDisturb_keeps _ _ _)
  exact device_eq kept.link (by simp [glitchTaken]) (glitchTaken_power d r f) (by simp [glitchTaken])
    (by simp [glitchTaken]) (by simp [glitchTaken]) (by simp [glitchTaken]) rfl rfl job (by simp [glitchTaken])
    (by simp [glitchTaken])

/-! ### A rail sample (R51, R53, R57) -/

/-- A rail with a reading stored (R51). -/
def storedRail (v : Nat) (l : Rail) : Rail :=
  { l with sample := heldReading v, fullScale := decide (Config.fullScale ≤ v) }

/-- The board with rail r replaced. -/
def withRail (r : RailId) (x : Rail) (p : Power) : Power := { p with rails := p.rails.set r x }

/-- A reading taken on rail r, which stands as x after it. -/
def railTaken (r : RailId) (v : Nat) (x : Rail) (d : Device) : Device :=
  fullScaleCause d.power.rails[r].fullScale v (setPower (withRail r x d.power) d)

theorem withRail_self (r : RailId) (x : Rail) (p : Power) : (withRail r x p).rails[r] = x :=
  (getElem_set_fin _ _ _ _).trans (if_pos rfl)

theorem withRail_withRail (r : RailId) (x y : Rail) (p : Power) : withRail r x (withRail r y p) = withRail r x p := by
  simp [withRail]

theorem fullScaleCause_power (was : Bool) (v : Nat) : (fullScaleCause was v d).power = d.power := by
  unfold fullScaleCause
  split_ifs <;> simp

theorem railTaken_power (r : RailId) (v : Nat) (x : Rail) : (railTaken r v x d).power = withRail r x d.power :=
  fullScaleCause_power _ _ _

/-- A device in which a reading has been stored touches the board, the cause unit and the notice queue alone. -/
def OnlyStored (d t : Device) : Prop :=
  t = { d with power := t.power, causes := t.causes, link := { d.link with notices := t.link.notices } }

/-- A sample that ends a glitch touches its rail, the engine, the causes, the job's rack events and the two queues of
the link controller. -/
theorem glitchTaken_of_onlyStored {d t : Device} (h : OnlyStored d t) (r : RailId) (f : Frame) (p : Power) :
    setPower p (glitchTaken r f t) = { d with
      engine := (glitchTaken r f t).engine, causes := (glitchTaken r f t).causes, power := p,
      job := { d.job with rackEvents := (glitchTaken r f t).job.rackEvents }, link := (glitchTaken r f t).link } := by
  have left := glitchTaken_frame t r f
  generalize glitchTaken r f t = g at left
  rw [left, h]
  rfl

theorem glitchTaken_link_of_onlyStored {d t : Device} (h : OnlyStored d t) (r : RailId) (f : Frame) :
    (glitchTaken r f t).link = { d.link with
      disturbs := (glitchTaken r f t).link.disturbs, notices := (glitchTaken r f t).link.notices } := by
  have left := glitchTaken_frame t r f
  generalize glitchTaken r f t = g at left
  rw [left, h]

theorem onlyStored_railTaken (r : RailId) (v : Nat) (x : Rail) : OnlyStored d (railTaken r v x d) := by
  unfold railTaken fullScaleCause OnlyStored
  split_ifs
  · rw [raiseCause_eq]
    rfl
  · rfl

theorem railTaken_records (r : RailId) (v : Nat) (x : Rail) (j : Fin 15) : (railTaken r v x d).causes.records[j] =
    if j = 10 ∧ Config.fullScale ≤ v ∧ d.power.rails[r].fullScale = false then happened d.causes.records[j]
    else d.causes.records[j] := by
  unfold railTaken fullScaleCause
  by_cases rises : Config.fullScale ≤ v ∧ d.power.rails[r].fullScale = false
  · rw [if_pos rises]
    by_cases hj : j = 10
    · rw [if_pos ⟨hj, rises⟩, hj]
      exact raiseCause_records_self _ .sensorRange
    · rw [if_neg fun h => hj h.1]
      exact raiseCause_records_of_ne _ hj
  · rw [if_neg rises, if_neg fun h => rises h.2]
    rfl

theorem railTaken_job (r : RailId) (v : Nat) (x : Rail) : (railTaken r v x d).job = d.job := by
  unfold railTaken fullScaleCause
  split_ifs
  · exact raiseCause_job _ _
  · rfl

/-- A rail replaced again is replaced by the later. -/
theorem setPower_railTaken (r : RailId) (v : Nat) (x y : Rail) :
    setPower (withRail r y (railTaken r v x d).power) (railTaken r v x d) = railTaken r v y d := by
  rw [railTaken_power, withRail_withRail, railTaken, railTaken, fullScaleCause_setPower, fullScaleCause_setPower]
  rfl

/-- What is made of a stored sample, by the power state (R53, R57). -/
def judgeRail (r : RailId) (d : Device) : Device :=
  if d.power.state = .on then superviseRail r d
  else if d.power.state = .falling ∧ railsDown d.power = true then fallDone d
  else d

theorem sampleRail_eq (r : RailId) (v : Nat) :
    sampleRail r v d = judgeRail r (railTaken r v (storedRail v d.power.rails[r]) d) := by
  unfold sampleRail railTaken withRail storedRail
  dsimp only
  generalize fullScaleCause _ _ _ = stored
  unfold judgeRail
  cases stored.power.state <;> simp

variable {d}

theorem judgeRail_of_on {r : RailId} (on : d.power.state = .on) : judgeRail r d = superviseRail r d := if_pos on

theorem judgeRail_of_down {r : RailId} (falling : d.power.state = .falling) (down : railsDown d.power = true) :
    judgeRail r d = fallDone d := by
  rw [judgeRail, if_neg (by simp [falling]), if_pos ⟨falling, down⟩]

theorem judgeRail_of_not {r : RailId} (on : d.power.state ≠ .on)
    (up : d.power.state = .falling → ¬railsDown d.power = true) : judgeRail r d = d := by
  rw [judgeRail, if_neg on, if_neg fun h => up h.1 h.2]

theorem railsDown_iff (p : Power) : railsDown p = true ↔ ∀ q : RailId, p.rails[q].sample < 500 := by
  rw [railsDown, List.all_eq_true]
  exact ⟨fun h q => of_decide_eq_true (h q (List.mem_finRange q)), fun h q _ => decide_eq_true (h q)⟩

theorem railInside_iff (p : Power) (r : RailId) : railInside p r = true ↔
    p.settings.windows[r].low ≤ p.rails[r].sample ∧ p.rails[r].sample ≤ p.settings.windows[r].high :=
  decide_eq_true_iff

/-! ### The supervision of a stored rail sample (R53, R54) -/

theorem superviseRail_inside {r : RailId} (inside : railInside d.power r = true) (h : d.power.rails[r].run = 0) :
    superviseRail r d = d := by
  unfold superviseRail
  dsimp only
  rw [if_pos inside, if_pos h]

theorem superviseRail_glitch {r : RailId} {f : Frame} (inside : railInside d.power r = true)
    (h : d.power.rails[r].run ≠ 0) (first : d.power.rails[r].first = some f) :
    superviseRail r d = railGlitch r f d := by
  unfold superviseRail
  dsimp only
  rw [if_pos inside, if_neg h, first]
  rfl

theorem superviseRail_outside {r : RailId} (outside : ¬railInside d.power r = true) (h : d.power.rails[r].run < 2) :
    superviseRail r d = outsideSample r d := by
  unfold superviseRail
  dsimp only
  rw [if_neg outside, if_neg (by omega)]

/-! ### Power OFF reached by a sample (R57, R163, R168) -/

theorem closingTest_power_of_off (h : d.power.state = .off) : (closingTest d).power = d.power := by
  unfold closingTest leaveIfDone
  split_ifs <;> simp

theorem fallDone_eq (d : Device) : fallDone d =
    let off := setPower { d.power with state := .off } d
    setPower (if d.power.pendingRequest then { off.power with state := .asking, pendingRequest := false }
      else off.power) (jobPowerOff off) := by
  have power : ∀ x : Device, x.power.state = .off → (jobPowerOff x).power = x.power := fun x hx => by
    unfold jobPowerOff
    split_ifs
    · rfl
    · exact closingTest_power_of_off hx
  unfold fallDone
  dsimp only
  rw [power _ rfl]
  split_ifs
  · rfl
  · exact device_eq rfl rfl (power _ rfl) rfl rfl rfl rfl rfl rfl rfl rfl rfl

/-! ### A sample of the current (R52) -/

/-- A reading taken on the current channel, whose run stands at a count after it. -/
def currentTaken (v run : Nat) (d : Device) : Device :=
  fullScaleCause d.power.currentFull v (setPower { d.power with
    current := heldReading v, currentFull := decide (Config.fullScale ≤ v), currentRun := run } d)

theorem currentTaken_power (d : Device) (v run : Nat) : (currentTaken v run d).power = { d.power with
    current := heldReading v, currentFull := decide (Config.fullScale ≤ v), currentRun := run } :=
  fullScaleCause_power _ _ _

theorem setPower_currentTaken (d : Device) (v run run' : Nat) :
    setPower { (currentTaken v run d).power with currentRun := run' } (currentTaken v run d) =
      currentTaken v run' d := by
  rw [currentTaken_power, currentTaken, currentTaken, fullScaleCause_setPower, fullScaleCause_setPower]
  rfl

theorem closed_iff (s : PowerState) : s.closed = true ↔ s = .rising ∨ s = .on := by
  cases s <;> simp [PowerState.closed]

theorem superviseCurrent_open {v : Nat} (h : d.power.state ≠ .rising) (h' : d.power.state ≠ .on) :
    superviseCurrent v d = d := if_neg (by rw [closed_iff]; tauto)

theorem superviseCurrent_low {v : Nat} (h : d.power.state = .rising ∨ d.power.state = .on)
    (low : v ≤ currentLimit d.power) : superviseCurrent v d = setPower { d.power with currentRun := 0 } d := by
  rw [superviseCurrent, if_pos ((closed_iff _).2 h), if_neg (by omega)]

theorem superviseCurrent_high {v : Nat} (h : d.power.state = .rising ∨ d.power.state = .on)
    (high : currentLimit d.power < v) (run : d.power.currentRun < 2) :
    superviseCurrent v d = setPower { d.power with currentRun := d.power.currentRun + 1 } d := by
  rw [superviseCurrent, if_pos ((closed_iff _).2 h), if_pos high, if_neg (by omega)]

end Sys2Proof.Machine

namespace Sys2Proof.Proofs

open Sys2Proof.Machine Sys2Proof.Safety

theorem exec_railSample (s : State) (r : RailId) (v : Nat) : exec (.converterSample (.rail r) v) s =
    .next { s with toDevice := judgeRail r (railTaken r v (storedRail v s.power.rails[r]) s.toDevice) } := by
  rw [← sampleRail_eq]
  rfl

/-- Settles O17: the sample is stored first, whatever the power state, and then judged by it. -/
theorem samplesAreSupervised : Obligations.SamplesAreSupervised := by
  refine ⟨fun s r v => ?rail, fun s v => ?current⟩
  case rail =>
    intro result held rises stored taken inside down
    have result_eq : result = .next { s with toDevice := judgeRail r (taken stored) } := exec_railSample s r v
    have power : ∀ x, (taken x).power = withRail r x s.power := railTaken_power s.toDevice r v
    have job : (taken stored).job = s.job := railTaken_job s.toDevice r v stored
    have again : ∀ x, setPower (withRail r x (taken stored).power) (taken stored) = taken x :=
      setPower_railTaken s.toDevice r v stored
    have down_iff : railsDown (taken stored).power = true ↔ down := railsDown_iff _
    have rail : (taken stored).power.rails[r] = stored := by rw [power, withRail_self]
    have state : (taken stored).power.state = s.power.state := by rw [power]; rfl
    have only : OnlyStored s.toDevice (taken stored) := onlyStored_railTaken s.toDevice r v stored
    have frame : (taken stored).link.frame = s.link.frame := by rw [only]
    have mode : (taken stored).link.mode = s.link.mode := by rw [only]
    have inside_iff : railInside (taken stored).power r = true ↔ inside := by
      rw [railInside_iff, rail, power]
      rfl
    rw [result_eq]
    refine ⟨fun on up => ?not, fun falling hdown => ?down, fun on hin run => ?inside, fun on hout run => ?outside,
      fun f on hin run first => ?glitch⟩
    case not => rw [judgeRail_of_not (by rwa [state]) (by rwa [state, down_iff])]
    case down =>
      intro off asked
      have pending : (taken stored).power.pendingRequest = s.power.pendingRequest := by rw [power]; rfl
      have fallen : judgeRail r (taken stored) = setPower asked (jobPowerOff off) := by
        rw [judgeRail_of_down (state.trans falling) (down_iff.2 hdown), fallDone_eq, pending]
        rfl
      rw [fallen]
      refine ⟨fun cycling awaiting => ?_, fun other => ?_⟩
      · have reached : jobPowerOff off = setJob { s.job with
            phase := some .dwelling, dwell := some s.job.offDwell } off := by
          rw [← job]
          exact if_pos ⟨job ▸ cycling, job ▸ awaiting⟩
        rw [reached]
        rfl
      · have reached : jobPowerOff off = closingTest off := if_neg (by
          rw [show off.job = s.job from job]
          tauto)
        rw [reached]
        rfl
    case inside => rw [judgeRail_of_on (state.trans on), superviseRail_inside (inside_iff.2 hin) (by rwa [rail])]
    case outside =>
      have run_up : outsideSample r (taken stored) = taken { stored with
          run := stored.run + 1, excursion := true,
          first := if stored.run = 0 then some s.link.frame else stored.first } := by
        refine Eq.trans ?_ (again _)
        unfold outsideSample
        dsimp only
        rw [rail, frame]
        rfl
      rw [judgeRail_of_on (state.trans on), superviseRail_outside (by rwa [inside_iff]) (by rwa [rail]), run_up]
    case glitch =>
      have running : stored.run ≠ 0 := (by omega : s.power.rails[r].run ≠ 0)
      have began : stored.first = some f := first
      have record : ∀ j : Fin 15, (taken stored).causes.records[j] = if j = 10 ∧ rises
          then happened s.causes.records[j] else s.causes.records[j] := railTaken_records s.toDevice r v stored
      clear_value taken stored
      rw [judgeRail_of_on (state.trans on), superviseRail_glitch (inside_iff.2 hin) (by rwa [rail])
        (by rwa [rail]), railGlitch_eq, rail, ← withRail, power, withRail_withRail]
      have whole := glitchTaken_of_onlyStored only r f
      refine ⟨_, rfl, congrArg (State.mk · s.pending) (whole _), glitchTaken_link_of_onlyStored only r f, rfl, ?_, ?_,
        glitchTaken_engine .., ?_, fun talk hf => ?_, fun quiet => ?_⟩
      · rw [setPower_causes, glitchTaken_causes _ _ _ _ (by decide)]
        refine (raiseCause_records_self _ .railGlitch).trans ?_
        rw [record]
        rfl
      · rw [setPower_causes, glitchTaken_causes _ _ _ _ (by decide)]
        refine (raiseCause_records_of_ne _ (by decide)).trans ?_
        rw [record]
        simp
      · exact (glitchTaken_engine ..).symm ▸ queued_takeEvent _ _ _
      · exact glitchTaken_railRequested _ (by rwa [mode]) (by rwa [frame])
      · exact (glitchTaken_disturbs_of_listenOnly _ (by rwa [mode])).trans (by rw [only])
  case current =>
    intro result held taken limit
    have result_eq : result = .next { s with
        toDevice := superviseCurrent held (taken s.power.currentRun) } := rfl
    have power : (taken s.power.currentRun).power = _ := currentTaken_power s.toDevice v s.power.currentRun
    have state : (taken s.power.currentRun).power.state = s.power.state :=
      (congrArg Power.state power).trans rfl
    have again : ∀ run : Nat, setPower { (taken s.power.currentRun).power with currentRun := run }
        (taken s.power.currentRun) = taken run := setPower_currentTaken s.toDevice v s.power.currentRun
    have limit_eq : currentLimit (taken s.power.currentRun).power = limit :=
      (congrArg currentLimit power).trans rfl
    rw [result_eq]
    refine ⟨fun rising on => ?_, fun closed => ⟨fun low => ?_, fun high run => ?_⟩⟩
    · rw [superviseCurrent_open (by rwa [state]) (by rwa [state])]
    · rw [superviseCurrent_low (by rwa [state]) (by rwa [limit_eq]), again]
    · have count : (taken s.power.currentRun).power.currentRun = s.power.currentRun :=
        (congrArg Power.currentRun power).trans rfl
      rw [superviseCurrent_high (by rwa [state]) (by rwa [limit_eq]) (by rwa [count]), again, count]

end Sys2Proof.Proofs
end


section
/-! The assembly of the own message (R16, R21 to R23, R150) and its receipt (R11, R13, R14, R196). -/

namespace Sys2Proof.Machine

open Sys2Proof.Safety

variable (d : Device)

/-! ### The replies that fit (R21, R182) -/

theorem repliesLength_eq_sum (rs : List Reply) : repliesLength rs = (rs.map fun r => 6 + r.data.length).sum := by
  rw [List.sum_eq_foldl, List.foldl_map]
  rfl

theorem repliesLength_cons (r : Reply) (rs : List Reply) :
    repliesLength (r :: rs) = replyLength r + repliesLength rs := by
  simp [repliesLength_eq_sum, replyLength]

theorem six_mul_length_le_repliesLength (rs : List Reply) : 6 * rs.length ≤ repliesLength rs := by
  induction rs with
  | nil => simp
  | cons r rs ih =>
    rw [repliesLength_cons, replyLength, List.length_cons]
    omega

/-- The replies taken are those at the head of the queue. -/
theorem fittingReplies_eq_take (space : Nat) (rs : List Reply) :
    fittingReplies space rs = rs.take (fittingReplies space rs).length := by
  induction rs generalizing space with
  | nil => rfl
  | cons r rs ih =>
    unfold fittingReplies
    split_ifs
    · rw [List.length_cons, List.take_succ_cons, ← ih]
    · rfl

theorem length_fittingReplies_le (space : Nat) (rs : List Reply) : (fittingReplies space rs).length ≤ rs.length := by
  rw [fittingReplies_eq_take]
  exact List.length_take_le' _ _

theorem repliesLength_fittingReplies_le (space : Nat) (rs : List Reply) :
    repliesLength (fittingReplies space rs) ≤ space := by
  induction rs generalizing space with
  | nil => exact Nat.zero_le _
  | cons r rs ih =>
    unfold fittingReplies
    split_ifs with fits
    · rw [repliesLength_cons]
      have := ih (space - replyLength r)
      omega
    · exact Nat.zero_le _

/-- The first reply not taken does not fit. -/
theorem lt_of_getElem?_fittingReplies {space : Nat} {rs : List Reply} {r : Reply}
    (h : rs[(fittingReplies space rs).length]? = some r) :
    space < repliesLength (fittingReplies space rs) + replyLength r := by
  induction rs generalizing space with
  | nil => simp at h
  | cons x rs ih =>
    unfold fittingReplies at h ⊢
    split_ifs at h ⊢ with fits
    · have := ih h
      rw [repliesLength_cons]
      omega
    · obtain rfl : x = r := by simpa using h
      rw [show repliesLength [] = 0 from rfl]
      omega

/-! ### The order of the notices (R150) -/

theorem mem_noticeOrder {u : CauseUnit} {m : CauseSet} {i : Fin 15} : i ∈ noticeOrder u m ↔
    (m.getLsbD (i.val + 1) = true ∧ passesTest u i = true) ∧ u.records[i].level ≤ 7 := by
  have positive : passesTest u i = true → 1 ≤ u.records[i].level := fun h => by
    rw [passesTest_iff] at h
    obtain ⟨-, -, positive, -⟩ := of_decide_eq_true h
    exact positive
  simp only [noticeOrder, List.mem_flatMap, List.mem_filter, allCauses, List.mem_finRange, true_and, Bool.and_eq_true,
    decide_eq_true_eq, isQueued, List.mem_cons, List.not_mem_nil, or_false]
  constructor
  · rintro ⟨level, hl, h, rfl⟩
    exact ⟨h, by omega⟩
  · rintro ⟨h, h7⟩
    exact ⟨_, by have := positive h.2; omega, h, rfl⟩

theorem noticeOrder_pairwise (u : CauseUnit) (m : CauseSet) : (noticeOrder u m).Pairwise (goesBefore u) := by
  refine List.pairwise_flatMap.2 ⟨fun level _ => ?_, ?_⟩
  · refine (List.Pairwise.filter _ (List.pairwise_lt_finRange 15)).imp_of_mem fun {i j} hi hj hlt => .inr ⟨?_, hlt⟩
    simp_all
  · refine List.Pairwise.imp (R := (· > ·)) (fun {a b} hab i hi j hj => .inl ?_) (by decide)
    simp_all

theorem not_goesBefore_self (u : CauseUnit) (i : Fin 15) : ¬goesBefore u i i := fun h =>
  h.elim (lt_irrefl _) fun h => lt_irrefl _ h.2

theorem nodup_of_goesBefore {u : CauseUnit} {is : List (Fin 15)} (h : is.Pairwise (goesBefore u)) : is.Nodup :=
  h.imp fun {i j} (hij : goesBefore u i j) => show i ≠ j from fun e => not_goesBefore_self u j (e ▸ hij)

/-- Causes listed once are as many as the filter of all places by them. -/
theorem length_filter_places {is : List (Fin 15)} (h : is.Nodup) {p : Fin 15 → Bool}
    (hp : ∀ i, p i = true ↔ i ∈ is) : ((List.finRange 15).filter p).length = is.length :=
  ((List.perm_ext_iff_of_nodup ((List.nodup_finRange 15).filter _) h).2 fun i => by simp [hp]).length_eq

/-- The notices that pass their test, by their bits (R147, R150). -/
theorem getLsbD_testedNotices (u : CauseUnit) (m : CauseSet) (i : Fin 15) :
    (testedNotices u m).getLsbD (i.val + 1) = (m.getLsbD (i.val + 1) && passesTest u i) := by
  rw [testedNotices, BitVec.getLsbD_and, getLsbD_passing]

/-! ### The parts of an assembly (R21, R22, R150) -/

/-- The space that PRESENT, the DISTURB items and the ASK take. -/
def fixedLength (d : Device) : Nat :=
  8 + 4 * (orderedDisturbs d.link.frame d.link.disturbs).length + (if (askPlaced d).isSome then 4 else 0)

/-- The replies placed. -/
def placedReplies (d : Device) : List Reply := fittingReplies (80 - fixedLength d) d.bench.replies

/-- The space taken before the notices. -/
def usedLength (d : Device) : Nat := fixedLength d + repliesLength (placedReplies d)

/-- The notices placed, in their order. -/
def placedNotices (d : Device) : List (Fin 15) :=
  (noticeOrder d.causes d.link.notices).take ((80 - usedLength d) / 6)

theorem fixedLength_le : fixedLength d ≤ 20 := by
  have two : (orderedDisturbs d.link.frame d.link.disturbs).length ≤ 2 := List.length_take_le _ _
  unfold fixedLength
  split_ifs <;> omega

theorem usedLength_le : usedLength d ≤ 80 := by
  have := repliesLength_fittingReplies_le (80 - fixedLength d) d.bench.replies
  have := fixedLength_le d
  unfold usedLength placedReplies
  omega

/-! An item of the own message: its bytes, and what a receiver reads in them (R196, R197). -/

/-- The PRESENT item. -/
def presentItem (d : Device) : List Byte × Item :=
  (presentBytes d, .present d.power.state (some d.job.state) (strapBudget d))

/-- A DISTURB item. -/
def disturbItem (n : Frame) (e : Disturb) : List Byte × Item := (disturbBytes n e, .disturb (frameAge n e.frame))

/-- An ASK item. -/
def askItem (w : Nat) : List Byte × Item := (askBytes w, .ask (w % 256))

/-- A REPLY item. -/
def replyItem (r : Reply) : List Byte × Item := (replyBytes r, .forBench)

/-- A NOTICE item. -/
def noticeItem (u : CauseUnit) (i : Fin 15) : List Byte × Item := (noticeBytes u i, .forBench)

/-- The items of the own message. -/
def placedItems (d : Device) : List (List Byte × Item) :=
  [presentItem d] ++ (orderedDisturbs d.link.frame d.link.disturbs).map (disturbItem d.link.frame) ++
  (askPlaced d).toList.map askItem ++ (placedReplies d).map replyItem ++
  (placedNotices d).map (noticeItem d.causes)

/-- The payload of the own message. -/
def placedPayload (d : Device) : List Byte := ((placedItems d).map Prod.fst).flatten

theorem assemble_eq : assemble d =
    { errors := d.link.errors, disturbs := orderedDisturbs d.link.frame d.link.disturbs, ask := askPlaced d,
      replies := (placedReplies d).length, notices := causeSet (placedNotices d),
      bytes := messageBytes d.link.bay.toNat (placedItems d).length (placedPayload d) } := by
  have space : 80 - usedLength d = 80 - fixedLength d - repliesLength (placedReplies d) := by
    rw [usedLength, Nat.sub_add_eq]
  have items : (placedItems d).map Prod.fst = [presentBytes d] ++
      (orderedDisturbs d.link.frame d.link.disturbs).map (disturbBytes d.link.frame) ++
      (askPlaced d).toList.map askBytes ++ (placedReplies d).map replyBytes ++
      (placedNotices d).map (noticeBytes d.causes) := by
    simp [placedItems, Function.comp_def, presentItem, disturbItem, askItem, replyItem, noticeItem]
  rw [placedPayload, ← List.length_map (f := Prod.fst) (as := placedItems d), items, placedNotices, space]
  have ask : (match askPlaced d with
      | some w => [askBytes w]
      | none => []) = (askPlaced d).toList.map askBytes := by cases askPlaced d <;> rfl
  rw [← ask]
  rfl

/-! ### The notices placed (R150) -/

theorem getLsbD_notices_assemble (i : Fin 15) :
    (assemble d).notices.getLsbD (i.val + 1) = true ↔ i ∈ placedNotices d := by
  rw [assemble_eq, getLsbD_causeSet, decide_eq_true_iff]

theorem placedNotices_nodup : (placedNotices d).Nodup := nodup_of_goesBefore (noticeOrder_pairwise _ _).take

theorem tested_of_mem_placedNotices {i : Fin 15} (h : i ∈ placedNotices d) :
    (testedNotices d.causes d.link.notices).getLsbD (i.val + 1) = true := by
  rw [getLsbD_testedNotices, Bool.and_eq_true]
  exact (mem_noticeOrder.1 (List.mem_of_mem_take h)).1

variable {d}

/-- With levels up to 7 every notice that waits has its place in the order. -/
theorem mem_noticeOrder_iff_tested (inv : LevelInv d) (i : Fin 15) : i ∈ noticeOrder d.causes d.link.notices ↔
    (testedNotices d.causes d.link.notices).getLsbD (i.val + 1) = true := by
  rw [mem_noticeOrder, getLsbD_testedNotices, Bool.and_eq_true, and_iff_left (inv.2.2 i).1]

/-- As many notices are placed as there are, or as fit. -/
theorem length_placedNotices (inv : LevelInv d) : (placedNotices d).length =
    min ((List.finRange 15).filter fun i => (testedNotices d.causes d.link.notices).getLsbD (i.val + 1)).length
      ((80 - usedLength d) / 6) := by
  rw [length_filter_places (nodup_of_goesBefore (noticeOrder_pairwise d.causes d.link.notices))
    fun i => (mem_noticeOrder_iff_tested inv i).symm, placedNotices, List.length_take, Nat.min_comm]

/-- A notice placed goes before one that is left. -/
theorem goesBefore_of_left (inv : LevelInv d) {i j : Fin 15} (hi : i ∈ placedNotices d)
    (hj : (testedNotices d.causes d.link.notices).getLsbD (j.val + 1) = true) (left : j ∉ placedNotices d) :
    goesBefore d.causes i j := by
  have order := noticeOrder_pairwise d.causes d.link.notices
  have waits := (mem_noticeOrder_iff_tested inv j).2 hj
  rw [← List.take_append_drop ((80 - usedLength d) / 6) (noticeOrder d.causes d.link.notices)] at order waits
  obtain ⟨-, -, between⟩ := List.pairwise_append.1 order
  exact between i hi j ((List.mem_append.1 waits).resolve_left left)

variable (d)

/-! ### The lengths of the own message (R16, R21) -/

theorem length_disturbBytes (n : Frame) (e : Disturb) : (disturbBytes n e).length = 4 := rfl

theorem length_askBytes (w : Nat) : (askBytes w).length = 4 := rfl

theorem length_replyBytes (r : Reply) : (replyBytes r).length = replyLength r := by
  simp [replyBytes, replyLength]
  omega

theorem length_noticeBytes (u : CauseUnit) (i : Fin 15) : (noticeBytes u i).length = 6 := rfl

theorem length_presentBytes : (presentBytes d).length = 8 := rfl

theorem length_placedPayload : (placedPayload d).length = usedLength d + 6 * (placedNotices d).length := by
  have ask : (((askPlaced d).toList.map fun _ => 4).sum : Nat) = if (askPlaced d).isSome then 4 else 0 := by
    cases askPlaced d <;> rfl
  simp only [placedPayload, placedItems, List.length_flatten, List.map_append, List.map_map, List.sum_append,
    Function.comp_def, presentItem, disturbItem, askItem, replyItem, noticeItem, length_disturbBytes, length_askBytes,
    length_replyBytes, length_noticeBytes, length_presentBytes, List.map_cons, List.map_nil, List.sum_singleton, ask,
    usedLength, fixedLength, repliesLength_eq_sum, replyLength]
  simp
  omega

theorem length_placedPayload_le : (placedPayload d).length ≤ 80 := by
  have notices : (placedNotices d).length ≤ (80 - usedLength d) / 6 := List.length_take_le _ _
  have := usedLength_le d
  rw [length_placedPayload]
  omega

theorem length_placedItems : (placedItems d).length = 1 + (orderedDisturbs d.link.frame d.link.disturbs).length +
    (askPlaced d).toList.length + (placedReplies d).length + (placedNotices d).length := by
  simp [placedItems]
  omega

theorem length_placedItems_le : (placedItems d).length ≤ 80 := by
  have payload := length_placedPayload_le d
  have replies := six_mul_length_le_repliesLength (placedReplies d)
  have ask : (askPlaced d).toList.length ≤ 4 := by cases askPlaced d <;> simp
  rw [length_placedPayload, usedLength, fixedLength] at payload
  rw [length_placedItems]
  omega

theorem eight_le_length_placedPayload : 8 ≤ (placedPayload d).length := by
  rw [length_placedPayload, usedLength, fixedLength]
  omega

theorem assemble_bytes : (assemble d).bytes =
    headerBytes d.link.bay.toNat (placedPayload d).length (placedItems d).length ++ withChecksum (placedPayload d) := by
  have nonempty : placedPayload d ≠ [] := List.length_pos_iff.1 (by have := eight_le_length_placedPayload d; omega)
  rw [assemble_eq]
  simp [messageBytes, withChecksum, nonempty]

theorem length_withChecksum (payload : List Byte) : (withChecksum payload).length = payload.length + 2 := by
  simp [withChecksum, be16]

theorem length_assemble_bytes : (assemble d).bytes.length = (placedPayload d).length + 6 := by
  rw [assemble_bytes, List.length_append, length_withChecksum]
  simp [headerBytes]
  omega

/-! ### The parse of the own message (R14, R196, R197) -/

/-- A receiver in a peer's slot reads an item in some bytes, whatever follows them. -/
def ReadsAs (p : List Byte × Item) : Prop := ∀ (count : Nat) (rest : List Byte),
  parseItems false (count + 1) (p.1 ++ rest) = (parseItems false count rest).map (p.2 :: ·)

theorem readsAs_of_itemLength {b : Byte} {bs : List Byte}
    (h : ∀ rest, itemLength false (b :: bs ++ rest) = some (bs.length + 1)) :
    ReadsAs (b :: bs, readItem (b :: bs)) := by
  intro count rest
  have measured := h rest
  rw [List.cons_append] at measured ⊢
  rw [parseItems, measured]
  dsimp only
  rw [if_pos (by simp), ← List.cons_append, show bs.length + 1 = (b :: bs).length from rfl, List.drop_left,
    List.take_left]
  cases parseItems false count rest <;> rfl

/-- Items that are each read are parsed one after the other. -/
theorem parseItems_of_readsAs {ps : List (List Byte × Item)} (h : ∀ p ∈ ps, ReadsAs p) :
    parseItems false ps.length (ps.map Prod.fst).flatten = some (ps.map Prod.snd) := by
  induction ps with
  | nil => rfl
  | cons p ps ih =>
    rw [List.map_cons, List.flatten_cons, List.length_cons, h p List.mem_cons_self,
      ih fun q hq => h q (List.mem_cons_of_mem _ hq)]
    rfl

theorem readItem_presentBytes :
    readItem (presentBytes d) = .present d.power.state (some d.job.state) (strapBudget d) := by
  have budget : d.link.budgetStrap.toNat < 4 := d.link.budgetStrap.isLt
  have states : (byteOf (powerCode d.power.state + 16 * jobCode d.job.state)).toNat =
      powerCode d.power.state + 16 * jobCode d.job.state :=
    toNat_byteOf (by cases d.power.state <;> cases d.job.state <;> decide)
  have verdict : (byteOf (verdictCode d.job.verdict + 16 * d.link.budgetStrap.toNat)).toNat =
      verdictCode d.job.verdict + 16 * d.link.budgetStrap.toNat :=
    toNat_byteOf (by cases d.job.verdict <;> simp [verdictCode] <;> omega)
  change Item.present (powerOfCode ((byteOf (powerCode d.power.state + 16 * jobCode d.job.state)).toNat % 8))
    (jobOfCode ((byteOf (powerCode d.power.state + 16 * jobCode d.job.state)).toNat / 16))
    ((byteOf (verdictCode d.job.verdict + 16 * d.link.budgetStrap.toNat)).toNat / 16 % 4 + 1) = _
  have power : powerOfCode ((powerCode d.power.state + 16 * jobCode d.job.state) % 8) = d.power.state := by
    cases d.power.state <;> cases d.job.state <;> rfl
  have job : jobOfCode ((powerCode d.power.state + 16 * jobCode d.job.state) / 16) = some d.job.state := by
    cases d.power.state <;> cases d.job.state <;> rfl
  have strap : (verdictCode d.job.verdict + 16 * d.link.budgetStrap.toNat) / 16 % 4 = d.link.budgetStrap.toNat := by
    cases d.job.verdict <;> simp only [verdictCode] <;> omega
  rw [states, verdict, power, job, strap]
  rfl

theorem presentItem_reads : ReadsAs (presentItem d) := by
  rw [presentItem, ← readItem_presentBytes]
  exact readsAs_of_itemLength fun _ => rfl

theorem frameAge_of_mem_orderedDisturbs {n : Frame} {q : List Disturb} {e : Disturb}
    (h : e ∈ orderedDisturbs n q) : frameAge n e.frame ≤ 1 := by
  have he : e.frame = n - 1 ∨ e.frame = n := by
    simpa [List.mem_append, or_and_left, ← and_or_left] using (List.mem_append.1 (List.mem_of_mem_take h)).imp
      (fun h => (List.mem_filter.1 h).2) (fun h => (List.mem_filter.1 h).2)
  rcases he with h | h <;> rw [h, frameAge]
  · rw [show n - (n - 1) = 1 by bv_omega]
    decide
  · simp

theorem disturbItem_reads {n : Frame} {e : Disturb} (h : frameAge n e.frame < 256) : ReadsAs (disturbItem n e) := by
  have lag := toNat_byteOf h
  rw [disturbItem, ← lag]
  exact readsAs_of_itemLength fun _ => rfl

theorem askItem_reads (w : Nat) : ReadsAs (askItem w) := by
  have window : (byteOf w).toNat = w % 256 := BitVec.toNat_ofNat ..
  rw [askItem, ← window]
  exact readsAs_of_itemLength fun _ => rfl

theorem replyItem_reads {r : Reply} (h : replyLength r < 256) : ReadsAs (replyItem r) := by
  refine readsAs_of_itemLength fun rest => ?_
  have long : 6 ≤ (byteOf (replyLength r)).toNat := by
    rw [toNat_byteOf h, replyLength]
    omega
  have measured := length_replyBytes r
  rw [← toNat_byteOf h] at measured
  exact (if_pos long).trans (congrArg some measured.symm)

theorem noticeItem_reads (u : CauseUnit) (i : Fin 15) : ReadsAs (noticeItem u i) :=
  readsAs_of_itemLength fun _ => rfl

theorem placedItems_read (h : ∀ r ∈ d.bench.replies, replyLength r ≤ 64) : ∀ p ∈ placedItems d, ReadsAs p := by
  have replies : ∀ r ∈ placedReplies d, replyLength r < 256 := fun r hr => by
    rw [placedReplies, fittingReplies_eq_take] at hr
    exact (h r (List.mem_of_mem_take hr)).trans_lt (by decide)
  intro p hp
  simp only [placedItems, List.mem_append, List.mem_map, List.mem_singleton] at hp
  rcases hp with (((rfl | ⟨e, he, rfl⟩) | ⟨w, -, rfl⟩) | ⟨r, hr, rfl⟩) | ⟨i, -, rfl⟩
  · exact presentItem_reads d
  · exact disturbItem_reads ((frameAge_of_mem_orderedDisturbs he).trans_lt (by decide))
  · exact askItem_reads w
  · exact replyItem_reads (replies r hr)
  · exact noticeItem_reads d.causes i

/-- What a receiver reads in the own message. -/
theorem placedItems_snd : (placedItems d).map Prod.snd =
    [Item.present d.power.state (some d.job.state) (strapBudget d)] ++
      (orderedDisturbs d.link.frame d.link.disturbs).map (fun e => Item.disturb (frameAge d.link.frame e.frame)) ++
      ((askPlaced d).toList.map fun w => Item.ask (w % 256)) ++
      List.replicate ((placedReplies d).length + (placedNotices d).length) Item.forBench := by
  simp [placedItems, Function.comp_def, presentItem, disturbItem, askItem, replyItem, noticeItem]

/-! ### The payload, byte for byte (R21 to R23, R150, R182, R196) -/

theorem lanesPlaying_eq_sum : lanesPlaying d = ((List.finRange 4).map fun i =>
    if (lane d i).state = .playing ∨ (lane d i).state = .finishing then 2 ^ i.val else 0).sum := by
  have going : ∀ s : LaneState, s.going = true ↔ s = .playing ∨ s = .finishing := fun s => by
    cases s <;> simp [LaneState.going]
  rw [List.sum_eq_foldl, List.foldl_map]
  simp only [lanesPlaying, allLanes, going]

theorem presentBytes_eq : presentBytes d =
    [0x01, byteOf (stateCode d.power.state + 16 * jobStateCode d.job.state),
      byteOf (verdictNumber d.job.verdict + 16 * d.link.budgetStrap.toNat),
      byteOf (((List.finRange 4).map fun i =>
        if (lane d i).state = .playing ∨ (lane d i).state = .finishing then 2 ^ i.val else 0).sum)] ++
    be16 d.link.errors.toNat ++ [0, 0] := by
  rw [presentBytes, lanesPlaying_eq_sum]
  rfl

theorem disturbBytes_eq (n : Frame) (e : Disturb) : disturbBytes n e = [0x02, byteOf (frameAge n e.frame),
    byteOf ((if e.rail then 1 else 0) + if e.burst then 2 else 0), 0] := by
  unfold disturbBytes
  cases e.rail <;> cases e.burst <;> rfl

theorem replyBytes_eq (r : Reply) : replyBytes r = [0x05, byteOf (6 + r.data.length), r.kind, r.seq,
    byteOf (reasonNumber r.reason), if r.more then 1 else 0] ++ r.data := by
  unfold replyBytes
  cases r.more <;> rfl

theorem placedPayload_eq : placedPayload d = itemBytes d (assemble d) (placedNotices d) := by
  have replies : d.bench.replies.take (placedReplies d).length = placedReplies d := (fittingReplies_eq_take _ _).symm
  rw [assemble_eq, itemBytes, ← presentBytes_eq]
  dsimp only
  rw [replies]
  simp only [placedPayload, placedItems, List.map_append, List.map_map, List.flatten_append, List.flatMap_def,
    Function.comp_def, presentItem, disturbItem, askItem, replyItem, noticeItem, List.map_cons, List.map_nil,
    List.flatten_singleton, ← disturbBytes_eq, ← replyBytes_eq]
  rfl

/-! ### The header of the own message (R194, R195) -/

/-- The data bits of the own message's header. -/
def placedHeader (d : Device) : HeaderData := headerData (byteOf (16 * d.link.bay.toNat + 1))
  (byteOf (placedPayload d).length) (byteOf (placedItems d).length)

theorem byteAt_assemble :
    headerData (byteAt (assemble d).bytes 0) (byteAt (assemble d).bytes 1) (byteAt (assemble d).bytes 2) =
        placedHeader d ∧
      byteAt (assemble d).bytes 3 = checkByte (placedHeader d) := by
  rw [assemble_bytes]
  exact ⟨headerData_headerByte _, rfl⟩

theorem nat8_assemble :
    nat8 (assemble d).bytes 1 = (placedPayload d).length ∧ nat8 (assemble d).bytes 2 = (placedItems d).length := by
  have payload := length_placedPayload_le d
  have items := length_placedItems_le d
  obtain ⟨-, -, length, count⟩ := headerFields_sent (d.link.bay.isLt : d.link.bay.toNat < 16)
    (by omega : (placedPayload d).length < 256) (by omega : (placedItems d).length < 256)
  rw [assemble_bytes]
  exact ⟨length, count⟩

theorem drop_assemble : (assemble d).bytes.drop 4 = withChecksum (placedPayload d) := by
  rw [assemble_bytes]
  rfl

end Sys2Proof.Machine

namespace Sys2Proof.Proofs

open Sys2Proof.Machine Sys2Proof.Safety

theorem exec_ownSlotTransmit (s : State) :
    exec .ownSlotTransmit s = .next { s with toDevice := beginMessage s.toDevice } := rfl

/-- Settles O12: what is begun is the message that assembly gives, taken apart into its parts. -/
theorem ownMessageBegins : Obligations.OwnMessageBegins := by
  refine fun s => ⟨fun slot own normal unbegun => ?_, fun h => ?_⟩
  case refine_2 =>
    have idle : ¬mayTransmit s.toDevice = true := by
      rw [mayTransmit, Bool.and_eq_true, decide_eq_true_iff, Bool.not_eq_true']
      rcases h with h | h | h | h <;> simp [h]
    rw [exec_ownSlotTransmit, beginMessage, if_neg idle]
  intro f
  have begins : mayTransmit s.toDevice = true := by
    rw [mayTransmit, Bool.and_eq_true, decide_eq_true_iff, unbegun]
    exact ⟨⟨normal, slot, own⟩, rfl⟩
  have begun : beginMessage s.toDevice = _ := if_pos begins
  have f_eq : f = _ := assemble_eq s.toDevice
  rw [exec_ownSlotTransmit, begun]
  refine ⟨_, rfl, rfl, ?_, ?_, ?_, ?_, ?_, ?_⟩
  · rw [f_eq]
  · have := length_placedPayload_le s.toDevice
    rw [show f.bytes.length = _ from length_assemble_bytes s.toDevice]
    omega
  · rw [f_eq]
    rfl
  · intro i
    exact (getLsbD_testedNotices ..).trans (by rw [passesTest_iff])
  · rw [f_eq]
    simp only [orderedDisturbs, ← Bool.beq_eq_decide_eq]
  · intro used waiting
    have used_eq : used = usedLength s.toDevice := by
      change 8 + 4 * f.disturbs.length + _ + ((s.bench.replies.take f.replies).map _).sum = _
      rw [f_eq]
      dsimp only
      rw [placedReplies, ← fittingReplies_eq_take, ← repliesLength_eq_sum]
      rfl
    have replies : f.replies = (placedReplies s.toDevice).length := by rw [f_eq]
    have sent : ∀ i : Fin 15, f.notices.getLsbD (i.val + 1) = true ↔ i ∈ placedNotices s.toDevice :=
      getLsbD_notices_assemble s.toDevice
    rw [used_eq, replies]
    refine ⟨usedLength_le _, length_fittingReplies_le _ _, fun r hr => ?_, fun i hi => ?_, fun inv => ⟨?_, ?_⟩⟩
    · have short := lt_of_getElem?_fittingReplies hr
      have fixed := fixedLength_le s.toDevice
      rw [← placedReplies, replyLength] at short
      rw [usedLength]
      omega
    · exact tested_of_mem_placedNotices s.toDevice ((sent i).1 hi)
    · exact (length_filter_places (placedNotices_nodup s.toDevice) sent).trans (length_placedNotices inv)
    · intro i j hi hj left
      exact goesBefore_of_left inv ((sent i).1 hi) hj (by rw [← sent, left]; exact Bool.false_ne_true)

/-- Settles O13: the message is the header of the payload placed, that payload and its checksum, and each item placed
is read as itself. -/
theorem ownMessageIsGoodAtReceiver : Obligations.OwnMessageIsGoodAtReceiver := by
  rintro s numbered ⟨-, -, -, short⟩
  intro f h
  obtain ⟨data, check⟩ := byteAt_assemble s.toDevice
  obtain ⟨length, count⟩ := nat8_assemble s.toDevice
  have payload := length_placedPayload_le s.toDevice
  have some_payload := eight_le_length_placedPayload s.toDevice
  have items := length_placedItems_le s.toDevice
  have peer : decide (s.link.bay.toFin = 0) = false := 
    decide_eq_false fun none => numbered (BitVec.toFin_inj.1 none)
  have f_eq : f = _ := assemble_eq s.toDevice
  refine ⟨?_, ?_, ?_, placedNotices s.toDevice, (noticeOrder_pairwise _ _).take, fun i => ?_, ?_, ?_, ?_⟩
  · rw [show h = placedHeader s.toDevice from data, check]
    exact decodeHeader_checkByte _
  · rw [show h = placedHeader s.toDevice from data]
    exact headerFault_sent (by omega) payload (by omega)
  · rw [length_assemble_bytes, length]
    omega
  · rw [f_eq, getLsbD_causeSet, decide_eq_true_iff]
  · rw [count, length_placedItems, f_eq]
  · rw [length, drop_assemble, ← placedPayload_eq]
    exact List.take_left
  · have parsed := parseItems_of_readsAs (placedItems_read s.toDevice short)
    rw [length, count, drop_assemble, judgeMessage_withChecksum (by rw [peer]; exact parsed), placedItems_snd, f_eq]

end Sys2Proof.Proofs
end


section
/-! An accepted mark (R2, R3, R12, R15, R19, R27, R31, R40): the frame's end, and the new frame's handling by the
blocks. -/

namespace Sys2Proof.Machine

open Sys2Proof.Safety

/-! ### The slot that a mark ends (R12, R15, R27) -/

section

variable {s : State} {active : Bool}

theorem receives_unique {j k : StationId} (hj : receives s j) (hk : receives s k) : j = k :=
  Option.some.inj (hj.1.symm.trans hk.1)

/-- A slot's end cuts its message short, finds it silent, or has no outcome. -/
theorem endSlot_cases (s : State) (active : Bool) :
    (∃ c, cutShort s active c ∧ endSlot active s.toDevice = discard .truncated c s.toDevice) ∨
    (∃ c, receives s c ∧ s.link.reception ≠ .done ∧ (¬∃ k, cutShort s active k) ∧
      endSlot active s.toDevice = silentOutcome c (setReception .done s.toDevice)) ∨
    (¬∃ k, receives s k ∧ s.link.reception ≠ .done) ∧ endSlot active s.toDevice = s.toDevice := by
  by_cases h : ∃ c, receives s c ∧ s.link.reception ≠ .done
  · obtain ⟨c, hr, hd⟩ := h
    by_cases cut : s.link.reception = .idle → active = true
    · exact .inl ⟨c, ⟨hr, hd, cut⟩, endSlot_cut hr hd cut⟩
    · obtain ⟨idle, silent⟩ := Classical.not_imp.1 cut
      obtain rfl : active = false := by simpa using silent
      exact .inr (.inl ⟨c, hr, hd, fun ⟨_, _, _, hk⟩ => cut hk, endSlot_silent hr idle⟩)
  · refine .inr (.inr ⟨h, endSlot_none ?_⟩)
    by_cases done : s.link.reception = .done
    · exact .inr done
    · exact .inl fun k hk => h ⟨k, hk, done⟩

/-- The error summary after a slot's end. -/
def errorsAtEnd (s : State) (active : Bool) : ErrorSet :=
  if ∃ k : StationId, cutShort s active k then s.link.errors ||| 0x8 else s.link.errors

theorem endSlot_eq (s : State) (active : Bool) : endSlot active s.toDevice = { s.toDevice with
    link := { s.link with errors := errorsAtEnd s active, reception := (endSlot active s.toDevice).link.reception },
    view := { s.view with peers := (endSlot active s.toDevice).view.peers,
                          notes := (endSlot active s.toDevice).view.notes } } := by
  rcases endSlot_cases s active with ⟨c, hc, h⟩ | ⟨c, -, -, hc, h⟩ | ⟨hn, h⟩ <;> rw [h, errorsAtEnd]
  · rw [if_pos ⟨c, hc⟩, discard_eq, discard_link, discard_view, blindOutcome_eq]
    rfl
  · rw [if_neg hc, silentOutcome_eq]
    rfl
  · rw [if_neg fun ⟨k, hk⟩ => hn ⟨k, hk.1, hk.2.1⟩]

theorem endSlot_peers (s : State) (active : Bool) (k : StationId) : (endSlot active s.toDevice).view.peers[k] =
    if k ≠ 0 ∧ receives s k ∧ s.link.reception ≠ .done then unheard s.view.peers[k] else s.view.peers[k] := by
  have outcome : ∀ c, receives s c → s.link.reception ≠ .done →
      (if c ≠ 0 ∧ k = c then unheard s.view.peers[c] else s.view.peers[k]) =
        if k ≠ 0 ∧ receives s k ∧ s.link.reception ≠ .done then unheard s.view.peers[k] else s.view.peers[k] := by
    intro c hr hd
    by_cases hk : k = c
    · subst hk
      exact if_congr ⟨fun h => ⟨h.1, hr, hd⟩, fun h => ⟨h.1, rfl⟩⟩ rfl rfl
    · rw [if_neg fun h => hk h.2, if_neg fun h => hk (receives_unique h.2.1 hr)]
  rcases endSlot_cases s active with ⟨c, hc, h⟩ | ⟨c, hr, hd, -, h⟩ | ⟨hn, h⟩ <;> rw [h]
  · rw [discard_view, blindOutcome_peers]
    exact outcome c hc.1 hc.2.1
  · rw [silentOutcome_peers]
    exact outcome c hr hd
  · rw [if_neg fun ⟨_, hk⟩ => hn ⟨k, hk⟩]

theorem endSlot_notes (s : State) (active : Bool) (k : StationId) : (endSlot active s.toDevice).view.notes[k] =
    if k ≠ 0 ∧ cutShort s active k then .blind else s.view.notes[k] := by
  rcases endSlot_cases s active with ⟨c, hc, h⟩ | ⟨c, hr, hd, hc, h⟩ | ⟨hn, h⟩ <;> rw [h]
  · rw [discard_view, blindOutcome_notes]
    refine if_congr ⟨fun ⟨h0, hk⟩ => hk ▸ ⟨h0, hc⟩, fun ⟨h0, hk⟩ => ?_⟩ rfl rfl
    obtain rfl := receives_unique hk.1 hc.1
    exact ⟨h0, rfl⟩
  · rw [silentOutcome_eq, if_neg fun hk => hc ⟨k, hk.2⟩]
    rfl
  · rw [if_neg fun ⟨_, hr, hd, _⟩ => hn ⟨k, hr, hd⟩]

end

/-! ### The slots that a mark leaves without their time (R15, R27) -/

theorem mem_slotsLeft : ∀ c k : StationId, k ∈ slotsLeft c ↔ c < k := by decide

theorem slotsLeft_nodup (c : StationId) : (slotsLeft c).Nodup :=
  (List.nodup_finRange 16).sublist (List.drop_sublist _ _)

/-- Slots silent one after the other, but for the own slot. -/
def silentSlots (own : Option StationId) (ks : List StationId) (d : Device) : Device :=
  ks.foldl (fun x k => if own = some k then x else silentOutcome k x) d

theorem silentSlots_eq (own : Option StationId) (ks : List StationId) (d : Device) : silentSlots own ks d = { d with
    view := { d.view with peers := (silentSlots own ks d).view.peers } } := by
  induction ks generalizing d with
  | nil => rfl
  | cons k ks ih =>
    have first : silentSlots own (k :: ks) d =
        silentSlots own ks (if own = some k then d else silentOutcome k d) := rfl
    rw [first, ih]
    split_ifs
    · rfl
    · rw [silentOutcome_eq]

theorem silentSlots_peers (own : Option StationId) {ks : List StationId} (nodup : ks.Nodup) (d : Device)
    (k : StationId) : (silentSlots own ks d).view.peers[k] =
      if k ≠ 0 ∧ own ≠ some k ∧ k ∈ ks then unheard d.view.peers[k] else d.view.peers[k] := by
  induction ks generalizing d with
  | nil => simp [silentSlots]
  | cons j ks ih =>
    obtain ⟨hj, nodup⟩ := List.nodup_cons.1 nodup
    have first : silentSlots own (j :: ks) d =
        silentSlots own ks (if own = some j then d else silentOutcome j d) := rfl
    have later : k ∈ ks → k ≠ j := fun hk e => hj (e ▸ hk)
    rw [first, ih nodup]
    by_cases own_j : own = some j
    · rw [if_pos own_j]
      refine if_congr ⟨fun ⟨h0, ho, hk⟩ => ⟨h0, ho, List.mem_cons_of_mem _ hk⟩,
        fun ⟨h0, ho, hk⟩ => ⟨h0, ho, ?_⟩⟩ rfl rfl
      exact (List.mem_cons.1 hk).resolve_left fun e => ho (e ▸ own_j)
    · rw [if_neg own_j, silentOutcome_peers]
      by_cases hk : k = j
      · subst hk
        simp [hj, own_j]
      · simp [hk]

/-! ### The end of slot timing at a mark (R3, R8, R12, R27) -/

theorem endSlots_none {d : Device} {active : Bool} (h : d.link.slot = none) : endSlots active d = d := by
  unfold endSlots
  rw [h]

theorem endSlots_some {d : Device} {active : Bool} {c : StationId} (h : d.link.slot = some c) :
    endSlots active d = silentSlots (ownSlot d) (slotsLeft c) (endSlot active d) := by
  unfold endSlots
  rw [h]
  rfl

theorem endSlots_eq (s : State) (active : Bool) : endSlots active s.toDevice = { s.toDevice with
    link := { s.link with errors := errorsAtEnd s active, reception := (endSlots active s.toDevice).link.reception },
    view := { s.view with peers := (endSlots active s.toDevice).view.peers,
                          notes := (endSlots active s.toDevice).view.notes } } := by
  cases h : s.link.slot with
  | none =>
    have uncut : errorsAtEnd s active = s.link.errors := if_neg fun ⟨k, hk⟩ => by simp [hk.1.1] at h
    rw [endSlots_none h, uncut]
  | some c =>
    rw [endSlots_some h, silentSlots_eq, endSlot_eq]

theorem endSlots_peers (s : State) (active : Bool) (k : StationId) : (endSlots active s.toDevice).view.peers[k] =
    if k ≠ 0 ∧ endsUnheard s k then unheard s.view.peers[k] else s.view.peers[k] := by
  obtain h | ⟨c, h⟩ := Option.eq_none_or_eq_some s.link.slot
  · rw [endSlots_none h, if_neg fun ⟨_, _, c, hc, _⟩ => by simp [hc] at h]
  have only : ∀ {x}, s.link.slot = some x → x = c := fun hx => Option.some.inj (hx.symm.trans h)
  rw [endSlots_some h, silentSlots_peers _ (slotsLeft_nodup c)]
  by_cases left : k ∈ slotsLeft c
  · have later := (mem_slotsLeft c k).1 left
    rw [endSlot_peers, if_neg (c := k ≠ 0 ∧ receives s k ∧ _) fun ⟨_, hr, _⟩ => later.ne' (only hr.1)]
    exact if_congr ⟨fun ⟨h0, own, _⟩ => ⟨h0, own, c, h, .inl later⟩, fun ⟨h0, own, _⟩ => ⟨h0, own, left⟩⟩ rfl rfl
  · rw [if_neg fun ⟨_, _, hk⟩ => left hk, endSlot_peers]
    refine if_congr ⟨fun ⟨h0, hr, hd⟩ => ⟨h0, hr.2, k, hr.1, .inr ⟨rfl, hd⟩⟩, fun ⟨h0, own, x, hx, hk⟩ => ?_⟩ rfl rfl
    obtain rfl := only hx
    obtain ⟨rfl, hd⟩ := hk.resolve_left fun lt => left ((mem_slotsLeft _ _).2 lt)
    exact ⟨h0, ⟨hx, own⟩, hd⟩

theorem endSlots_notes (s : State) (active : Bool) (k : StationId) : (endSlots active s.toDevice).view.notes[k] =
    if k ≠ 0 ∧ cutShort s active k then .blind else s.view.notes[k] := by
  obtain h | ⟨c, h⟩ := Option.eq_none_or_eq_some s.link.slot
  · rw [endSlots_none h, if_neg fun ⟨_, hk⟩ => by simp [hk.1.1] at h]
  · rw [endSlots_some h, silentSlots_eq]
    exact endSlot_notes s active k

/-! ### The collision run, and the frame's end (R17, R19) -/

/-- The third collision in a row empties the queues (R19). -/
def thirdCollision (d : Device) : Prop := d.link.collided = true ∧ 2 ≤ d.link.collisionRun

theorem endRun_of_third {d : Device} (h : thirdCollision d) : endRun d = { d with
    causes := (raiseCause .duplicateBay d).causes, bench := { d.bench with replies := [] },
    link := { d.link with collisionRun := d.link.collisionRun + 1, mode := .listenOnly, disturbs := [],
                          notices := 0 } } := by
  obtain ⟨collided, run⟩ := h
  unfold endRun
  dsimp only
  rw [if_pos collided, if_pos (by omega), duplicateBay, raiseCause_eq]
  dsimp only
  rw [raiseCause_causes, raiseCause_causes]
  rfl

theorem endRun_of_not {d : Device} (h : ¬thirdCollision d) : endRun d = setLink { d.link with
    collisionRun := if d.link.collided then d.link.collisionRun + 1 else d.link.collisionRun } d := by
  unfold endRun
  dsimp only
  by_cases collided : d.link.collided = true
  · have run : ¬3 ≤ d.link.collisionRun + 1 := fun h3 => h ⟨collided, by omega⟩
    rw [if_pos collided, if_neg run, if_pos collided]
  · rw [if_neg collided, if_neg collided]
    rfl

/-! ### The frame's end as a whole (R3) -/

/-- The block as an accepted mark at a moment finds it, from a link mode and a moment up to which the pulse line is
driven. -/
def markStart (s : State) (mode : LinkMode) (drive : Nat) (view : MarkView) (moment : Nat) : Device :=
  { s.toDevice with link := { s.link with mode := mode, driveUntil := drive }, pins := view.pins,
                    now := max s.now moment }

/-- The block with the new frame begun, as it is handed to the blocks. -/
def beginFrame (seen : Bool) (moment : Nat) (d : Device) : Device := setLink (newFrame seen moment d.link) d

theorem acceptMark_eq (s : State) (seen : Bool) (mode : LinkMode) (drive : Nat) (view : MarkView) (moment : Nat) :
    acceptMark seen moment view { s.toDevice with link := { s.link with mode := mode, driveUntil := drive } } =
      handleMark view (beginFrame seen moment (endFrame view.lineActive (markStart s mode drive view moment))) := rfl

/-- The frame's end, by what the slots' end has made of the error summary, the reception, the peers and the notes. -/
theorem frameEnded_of_slots {s : State} {seen : Bool} {mode : LinkMode} {drive moment : Nat} {view : MarkView}
    {d : Device} {r : Reception} {p : Vector Peer 16} {n : Vector SlotNote 16}
    (hd : d = { markStart s mode drive view moment with
      link := { s.link with mode := mode, driveUntil := drive, errors := errorsAtEnd s view.lineActive,
                            reception := r },
      view := { s.view with peers := p, notes := n } })
    (hp : ∀ k : StationId, p[k] = if k ≠ 0 ∧ endsUnheard s k then unheard s.view.peers[k] else s.view.peers[k])
    (hn : ∀ k : StationId, n[k] = if k ≠ 0 ∧ cutShort s view.lineActive k then .blind else s.view.notes[k]) :
    frameEnded s { s.link with mode := mode, markPulse := seen, driveUntil := drive } view moment
      (beginFrame seen moment (endRun (setLink { d.link with flight := none } d))) := by
  have third_iff : thirdCollision (setLink { d.link with flight := none } d) ↔
      (s.link.collided = true ∧ 2 ≤ s.link.collisionRun) := by
    rw [hd]
    rfl
  have kept : ∀ e : Disturb, (e.frame == s.link.frame + 1 || e.frame == s.link.frame + 1 - 1) =
      decide (e.frame = s.link.frame + 1 ∨ e.frame = s.link.frame) := fun e => by
    rw [BitVec.add_sub_cancel, Bool.decide_or]
    rfl
  by_cases third : s.link.collided = true ∧ 2 ≤ s.link.collisionRun
  · rw [endRun_of_third (third_iff.2 third)]
    subst hd
    refine ⟨rfl, ?_, rfl, fun k => ⟨hp k, hn k⟩, fun _ => ⟨occurred_raiseCause _ .duplicateBay, rfl, rfl, rfl⟩,
      fun h => absurd third h⟩
    rw [if_pos third, if_pos third.1]
    rfl
  · rw [endRun_of_not (mt third_iff.1 third)]
    subst hd
    refine ⟨rfl, ?_, rfl, fun k => ⟨hp k, hn k⟩, fun h => absurd h third, fun _ => ⟨rfl, rfl, rfl, ?_⟩⟩
    · rw [if_neg third]
      rfl
    · exact List.filter_congr fun e _ => kept e

theorem frameEnded_endFrame (s : State) (seen : Bool) (mode : LinkMode) (drive : Nat) (view : MarkView)
    (moment : Nat) : frameEnded s { s.link with mode := mode, markPulse := seen, driveUntil := drive } view moment
      (beginFrame seen moment (endFrame view.lineActive (markStart s mode drive view moment))) :=
  frameEnded_of_slots (endSlots_eq { s with toDevice := markStart s mode drive view moment } view.lineActive)
    (endSlots_peers { s with toDevice := markStart s mode drive view moment } view.lineActive)
    (endSlots_notes { s with toDevice := markStart s mode drive view moment } view.lineActive)

/-! ### The blocks' handling of the new frame -/

theorem handleMark_eq_frameHandled (view : MarkView) (d : Device) : handleMark view d = frameHandled view d := by
  unfold handleMark settleAndMonitor frameHandled
  cases view.offersFirst <;> cases view.settleFirst <;> rfl

theorem handleMark_keeps (view : MarkView) (d : Device) : WorkKeeps (peerMark d) (handleMark view d) := by
  have begun : WorkKeeps (peerMark d) (tallyShift (dwellMark (peerMark d))) :=
    (dwellMark_keeps _).trans (tallyShift_keeps _)
  unfold handleMark
  dsimp only
  split_ifs
  · exact (begun.trans (offerAll_keeps _)).trans (settleAndMonitor_keeps _ view)
  · exact (begun.trans (settleAndMonitor_keeps _ view)).trans (offerAll_keeps _)

/-- The peer view's handling of a mark touches the view and the sequencer alone (R38, R40, R50). -/
theorem peerMark_eq (d : Device) : peerMark d = { d with
    view := viewMark (ownSlot d) d.link.frame d.view, power := (peerMark d).power } := by
  unfold peerMark
  dsimp only
  generalize viewMark (ownSlot d) d.link.frame d.view = v
  cases ownGrantAt (ownSlot d) d.link.frame v d.view <;> rfl

/-! The mark takes no time of its own: every block's handling leaves the moment. -/

section

variable (d : Device)

theorem dwellMark_now : (dwellMark d).now = d.now := by
  unfold dwellMark dwellEnd
  split
  · split_ifs <;> simp
  · rfl

theorem readTemperature_now (t : TempReading) : (readTemperature t d).now = d.now := by
  cases t with
  | sensorOpen => exact raiseCause_now _ _
  | halfDegrees t =>
    unfold readTemperature
    dsimp only
    split_ifs <;> simp

theorem foldl_now {α : Type} {f : Device → α → Device} (h : ∀ d a, (f d a).now = d.now) (l : List α) :
    (l.foldl f d).now = d.now := by
  induction l generalizing d with
  | nil => rfl
  | cons a l ih => exact (ih _).trans (h d a)

theorem glitchOpportunities_now (p : Power) : (glitchOpportunities p d).now = d.now :=
  foldl_now d (fun x r => by split_ifs <;> simp) _

theorem tripOpportunities_now : (tripOpportunities d).now = d.now := foldl_now d (fun x _ => opportunity_now x _) _

theorem settleDue_now : (settleDue d).now = d.now := foldl_now _ settle_now _

theorem settleMark_now : (settleMark d).now = d.now := by
  unfold settleMark
  dsimp only
  split_ifs <;> simp [settleDue_now]

theorem jobTrip_now : (jobTrip d).now = d.now := by
  unfold jobTrip
  split
  · simp
  · rfl
  · rfl
  · rfl
  · rfl
  all_goals
    dsimp only
    split_ifs <;> simp

theorem tripWith_now (c : Cause) (r : RailId) (disturb : Bool) : (tripWith c r disturb d).now = d.now := by
  unfold tripWith
  dsimp only
  rw [jobTrip_now]
  split_ifs <;> simp

theorem fallDone_now : (fallDone d).now = d.now := by
  unfold fallDone
  dsimp only
  split_ifs <;> simp

theorem riseEndTest_now : (riseEndTest d).now = d.now := by
  unfold riseEndTest
  split
  · obtain ⟨-, -, -, -, now⟩ := jobPowerOn_frame (tripOpportunities (setPower (risen d.power) d))
    exact now.trans (tripOpportunities_now _)
  · exact tripWith_now _ _ _ _

theorem powerMark_now : (powerMark d).now = d.now := by
  unfold powerMark fallMark
  split
  · exact glitchOpportunities_now _ _
  · split_ifs
    · exact riseEndTest_now d
    · rfl
  · dsimp only
    split_ifs
    · exact fallDone_now _
    · rfl
  all_goals rfl

theorem settleAndMonitor_now (view : MarkView) : (settleAndMonitor view d).now = d.now := by
  unfold settleAndMonitor monitorMark
  split_ifs
  · rw [powerMark_now, readTemperature_now, settleMark_now]
  · rw [settleMark_now, powerMark_now, readTemperature_now]

theorem handleMark_now (view : MarkView) : (handleMark view d).now = d.now := by
  have begun : (tallyShift (dwellMark (peerMark d))).now = d.now := by
    rw [tallyShift_now, dwellMark_now, peerMark_eq]
  unfold handleMark
  dsimp only
  split_ifs
  · rw [settleAndMonitor_now, offerAll_eq, offer_now, begun]
  · rw [offerAll_eq, offer_now, settleAndMonitor_now, begun]

end

/-! ### The peer view across a mark (R31, R39, R40) -/

/-- What the grant pass keeps of the peer view. -/
structure GrantKeeps (v v' : PeerView) : Prop where
  ring : v'.ring.drop 1 = v.ring.drop 1
  listening : v'.listening = v.listening
  budget : v'.budget = v.budget

theorem markRising_drop (k : StationId) (ring : List RingEntry) : (markRising k ring).drop 1 = ring.drop 1 := by
  cases ring <;> rfl

theorem grantSlot_keeps (own : Option StationId) (n : Frame) (v : PeerView) (k : StationId) :
    GrantKeeps v (grantSlot own n v k) := by
  unfold grantSlot
  split
  · exact ⟨rfl, rfl, rfl⟩
  · split_ifs
    · exact ⟨rfl, rfl, rfl⟩
    · exact ⟨markRising_drop k v.ring, rfl, rfl⟩
    · exact ⟨rfl, rfl, rfl⟩
  · split_ifs <;> exact ⟨rfl, rfl, rfl⟩

theorem grantPass_keeps (own : Option StationId) (n : Frame) (ks : List StationId) (v : PeerView) :
    GrantKeeps v (ks.foldl (grantSlot own n) v) := by
  induction ks generalizing v with
  | nil => exact ⟨rfl, rfl, rfl⟩
  | cons k ks ih =>
    have first := grantSlot_keeps own n v k
    have rest := ih (grantSlot own n v k)
    exact ⟨rest.ring.trans first.ring, rest.listening.trans first.listening, rest.budget.trans first.budget⟩

/-- The ring shifts, the countdown falls, the notes are quiet, and the budget stands (R31, R39, R40). -/
theorem viewMark_eq (own : Option StationId) (n : Frame) (v : PeerView) :
    (viewMark own n v).listening = v.listening - 1 ∧ (∀ b : StationId, (viewMark own n v).notes[b] = .quiet) ∧
      (viewMark own n v).ring.drop 1 = v.ring.take 4 ∧ (viewMark own n v).budget = v.budget := by
  have pass := grantPass_keeps own n peerSlots
    { v with ring := shiftRing v.ring, roster := liveEntries n v.roster }
  unfold viewMark
  dsimp only
  generalize peerSlots.foldl (grantSlot own n) _ = w at pass
  obtain ⟨ring, listening, budget⟩ := pass
  exact ⟨by rw [listening], fun b => by simp, ring, budget⟩

/-! ### What an accepted mark leaves of the link controller, the view and the rest -/

/-- The blocks' handling of the new frame leaves the link controller but its two queues, and of the view it makes what
the mark makes of it. -/
theorem frameHandled_keeps (view : MarkView) (d : Device) :
    let t := frameHandled view d
    t.link = { d.link with disturbs := t.link.disturbs, notices := t.link.notices } ∧
      t.view = viewMark (ownSlot d) d.link.frame d.view ∧ t.pattern = d.pattern ∧ t.bench = d.bench ∧
      t.job.starts = d.job.starts ∧ t.job.mask = d.job.mask ∧ t.job.target = d.job.target ∧
      t.job.retries = d.job.retries ∧ t.now = d.now := by
  obtain ⟨link, seen, pattern, bench, starts, mask, target, retries⟩ := handleMark_keeps view d
  have now := handleMark_now d view
  rw [handleMark_eq_frameHandled] at *
  rw [peerMark_eq] at link seen pattern bench starts mask target retries
  exact ⟨link, seen, pattern, bench, starts, mask, target, retries, now⟩

theorem markTaken_of_frameEnded {s : State} {seen : Bool} {mode : LinkMode} {drive moment : Nat} {view : MarkView}
    {d : Device}
    (h : frameEnded s { s.link with mode := mode, markPulse := seen, driveUntil := drive } view moment d) :
    let t : State := { s with toDevice := frameHandled view d }
    markTaken s t view.lineActive moment mode ∧ t.link.markPulse = seen ∧ t.now = max s.now moment ∧
      t.link.driveUntil = drive := by
  obtain ⟨whole, ended, seen, -, third, single⟩ := h
  have limit : d.bench.limit = s.bench.limit := by
    by_cases h3 : s.link.collided = true ∧ 2 ≤ s.link.collisionRun
    · obtain ⟨-, -, -, emptied⟩ := third h3
      rw [emptied]
    · obtain ⟨-, -, kept, -⟩ := single h3
      rw [kept]
  obtain ⟨link, viewed, pattern, bench, starts, mask, target, retries, now⟩ := frameHandled_keeps view d
  obtain ⟨listening, notes, ring, budget⟩ := viewMark_eq (ownSlot d) d.link.frame d.view
  rw [← viewed] at listening notes ring budget
  intro t
  refine ⟨⟨?_, ?_, ?_, ?_, ?_, ?_, ?_, ?_, ?_, ?_, notes, ?_, ?_, ?_, ?_, ?_, ?_, ?_, ?_, ?_, ?_, rfl⟩, ?_, ?_, ?_⟩
  case refine_10 => exact listening.trans (by rw [seen])
  case refine_11 => exact ring.trans (by rw [seen])
  case refine_14 => exact budget.trans (by rw [seen])
  case refine_15 => exact pattern.trans (by rw [whole])
  case refine_16 => exact starts.trans (by rw [whole])
  case refine_17 => exact mask.trans (by rw [whole])
  case refine_18 => exact target.trans (by rw [whole])
  case refine_19 => exact retries.trans (by rw [whole])
  case refine_20 => exact (congrArg Bench.limit bench).trans limit
  case refine_22 => exact now.trans (by rw [whole])
  all_goals rw [show t.link = _ from link, ended]

/-- An accepted mark is the frame's end, and then the blocks' handling of the new frame. -/
theorem acceptMark_taken (s : State) (seen : Bool) (mode : LinkMode) (drive : Nat) (view : MarkView) (moment : Nat) :
    let t : State := { s with
      toDevice := acceptMark seen moment view
        { s.toDevice with link := { s.link with mode := mode, driveUntil := drive } } }
    (markTaken s t view.lineActive moment mode ∧ t.link.markPulse = seen ∧ t.now = max s.now moment ∧
      t.link.driveUntil = drive) ∧
      ∃ d : Device, frameEnded s { s.link with mode := mode, markPulse := seen, driveUntil := drive } view moment d ∧
        t.toDevice = frameHandled view d := by
  have ended := frameEnded_endFrame s seen mode drive view moment
  rw [acceptMark_eq, handleMark_eq_frameHandled]
  exact ⟨markTaken_of_frameEnded ended, _, ended, rfl⟩

/-- The link mode that an expiry's mark finds, after the pulse line has stayed high for some time (R7). -/
def modeAtExpiry (high : Nat) (l : Link) : LinkMode := if l.mode = .muted ∧ 1280000 ≤ high then .normal else l.mode

/-- What an expiry makes of the link controller before its mark (R2, R7). -/
theorem drivePulse_recoverMuted (high moment : Nat) (d : Device) : drivePulse moment (recoverMuted high d) = { d with
    link := { d.link with
      mode := modeAtExpiry high d.link,
      driveUntil := if modeAtExpiry high d.link = .normal then moment + 200 else d.link.driveUntil } } := by
  have recovered : recoverMuted high d = { d with link := { d.link with mode := modeAtExpiry high d.link } } := by
    unfold recoverMuted modeAtExpiry
    by_cases h : d.link.mode = .muted ∧ 1280000 ≤ high
    · rw [if_pos h]
      exact if_pos h
    · rw [if_neg h]
      exact if_neg h
  rw [recovered]
  unfold drivePulse
  dsimp only
  split_ifs <;> rfl

theorem candidateEdge_accepted {d : Device} {since : Nat} (view : MarkView)
    (edge : d.link.driveUntil ≤ d.link.previousMark.getD 0 + since)
    (late : d.link.previousMark = none ∨ 150000 ≤ since) :
    candidateEdge since view d = acceptMark true (d.link.previousMark.getD 0 + since) view d := by
  unfold candidateEdge edgeMoment
  dsimp only
  rw [if_neg (Nat.not_lt.2 edge)]
  exact if_pos late

end Sys2Proof.Machine

namespace Sys2Proof.Proofs

open Sys2Proof.Machine Sys2Proof.Safety

theorem exec_cadenceTimerExpiry (s : State) (high : Nat) (view : MarkView) :
    exec (.cadenceTimerExpiry high view) s = .next { s with toDevice := cadenceExpiry high view s.toDevice } := rfl

theorem exec_candidateMark (s : State) (since : Nat) (view : MarkView) :
    exec (.candidateMark since view) s = .next { s with toDevice := candidateEdge since view s.toDevice } := rfl

/-- Settles O3: both kinds of mark are accepted marks, from the link mode and the drive that they find or make. -/
theorem acceptedMarkBeginsFrame : Obligations.AcceptedMarkBeginsFrame := by
  refine ⟨fun high view s => ?_, fun since view s => ?_⟩
  · refine ⟨_, exec_cadenceTimerExpiry s high view, ?_⟩
    intro moment mode drive
    obtain ⟨⟨taken, pulse, now, driven⟩, begun⟩ := acceptMark_taken s false mode drive view moment
    rw [cadenceExpiry, drivePulse_recoverMuted]
    exact ⟨taken, pulse, now.trans (by omega), driven, begun⟩
  · intro moment edge late
    obtain ⟨⟨taken, pulse, now, driven⟩, begun⟩ := acceptMark_taken s true s.link.mode s.link.driveUntil view moment
    refine ⟨_, exec_candidateMark s since view, ?_⟩
    rw [candidateEdge_accepted view edge late]
    exact ⟨taken, pulse, driven, now, begun⟩

end Sys2Proof.Proofs
end


section
/-! One walk over every command. A property of the board, pattern memory, the lanes, the engine and the job stands
through everything the link does, so it is kept by every step once the parts of the commands that work on those blocks
keep it. -/

namespace Sys2Proof.Machine

open Sys2Proof.Safety

/-- The blocks beyond the link, the peer view, the causes and the bench handler stand between two devices. -/
structure SameBoard (d d' : Device) : Prop where
  power : d'.power = d.power
  pattern : d'.pattern = d.pattern
  lanes : d'.lanes = d.lanes
  captures : d'.captures = d.captures
  engine : d'.engine = d.engine
  job : d'.job = d.job

namespace SameBoard

theorem refl (d : Device) : SameBoard d d := ⟨rfl, rfl, rfl, rfl, rfl, rfl⟩

theorem trans {a b c : Device} (hab : SameBoard a b) (hbc : SameBoard b c) : SameBoard a c where
  power := hbc.power.trans hab.power
  pattern := hbc.pattern.trans hab.pattern
  lanes := hbc.lanes.trans hab.lanes
  captures := hbc.captures.trans hab.captures
  engine := hbc.engine.trans hab.engine
  job := hbc.job.trans hab.job

theorem foldl {α : Type} {f : Device → α → Device} (h : ∀ d a, SameBoard d (f d a)) (l : List α) (d : Device) :
    SameBoard d (l.foldl f d) := by
  induction l generalizing d with
  | nil => exact refl d
  | cons a l ih => exact (h d a).trans (ih _)

theorem ite {c : Prop} [Decidable c] {d a b : Device} (ha : SameBoard d a) (hb : SameBoard d b) :
    SameBoard d (if c then a else b) := by
  split_ifs
  · exact ha
  · exact hb

end SameBoard

section

variable (d : Device)

/-! ### Updates of the link, the peer view, the causes and the time -/

theorem setLink_sameBoard (l : Link) : SameBoard d (setLink l d) := ⟨rfl, rfl, rfl, rfl, rfl, rfl⟩
theorem setView_sameBoard (v : PeerView) : SameBoard d (setView v d) := ⟨rfl, rfl, rfl, rfl, rfl, rfl⟩
theorem atMoment_sameBoard (m : Nat) : SameBoard d (atMoment m d) := ⟨rfl, rfl, rfl, rfl, rfl, rfl⟩
theorem addError_sameBoard (k : ErrorKind) : SameBoard d (addError k d) := ⟨rfl, rfl, rfl, rfl, rfl, rfl⟩
theorem setReception_sameBoard (r : Reception) : SameBoard d (setReception r d) := setLink_sameBoard d _
theorem presentPins_sameBoard (i : LaneId) (b : Byte) : SameBoard d (presentPins i b d) :=
  ⟨rfl, rfl, rfl, rfl, rfl, rfl⟩
theorem presentAllPins_sameBoard (pins : CapturePins) : SameBoard d (presentAllPins pins d) :=
  ⟨rfl, rfl, rfl, rfl, rfl, rfl⟩

theorem raiseCause_sameBoard (c : Cause) : SameBoard d (raiseCause c d) where
  power := raiseCause_power d c
  pattern := raiseCause_pattern d c
  lanes := raiseCause_lanes d c
  captures := raiseCause_captures d c
  engine := raiseCause_engine d c
  job := raiseCause_job d c

/-! ### Reception (R10 to R15, R27 to R32) -/

theorem goodOutcome_sameBoard (k : StationId) : SameBoard d (goodOutcome k d) := by
  rw [goodOutcome_eq]
  exact ⟨rfl, rfl, rfl, rfl, rfl, rfl⟩

theorem silentOutcome_sameBoard (k : StationId) : SameBoard d (silentOutcome k d) := by
  rw [silentOutcome_eq]
  exact ⟨rfl, rfl, rfl, rfl, rfl, rfl⟩

theorem discard_sameBoard (e : ErrorKind) (k : StationId) : SameBoard d (discard e k d) := by
  rw [discard_eq]
  exact ⟨rfl, rfl, rfl, rfl, rfl, rfl⟩

theorem useHeader_sameBoard (k : StationId) (h : HeaderData) : SameBoard d (useHeader k h d) := by
  rw [useHeader_eq]
  exact ⟨rfl, rfl, rfl, rfl, rfl, rfl⟩

theorem receiveHeader_sameBoard (k : StationId) (b0 b1 b2 b3 : Byte) :
    SameBoard d (receiveHeader k b0 b1 b2 b3 d) := by
  unfold receiveHeader
  split
  · exact useHeader_sameBoard d k _
  · exact .trans (addError_sameBoard d _) (useHeader_sameBoard _ k _)
  · exact discard_sameBoard d _ k

theorem headerEvent_sameBoard (b0 b1 b2 b3 : Byte) : SameBoard d (headerEvent b0 b1 b2 b3 d) := by
  unfold headerEvent
  split
  · exact receiveHeader_sameBoard d _ b0 b1 b2 b3
  · exact .refl d

theorem truncate_sameBoard : SameBoard d (truncate d) := by
  unfold truncate
  split
  · exact discard_sameBoard d _ _
  · exact discard_sameBoard d _ _
  · exact .refl d

theorem endSlot_sameBoard (active : Bool) : SameBoard d (endSlot active d) := by
  unfold endSlot
  split
  · exact .ite (discard_sameBoard d _ _) (.trans (setReception_sameBoard d _) (silentOutcome_sameBoard _ _))
  · exact discard_sameBoard d _ _
  · exact .refl d

theorem slotEnd_sameBoard (active : Bool) : SameBoard d (slotEnd active d) := by
  unfold slotEnd
  cases d.link.slot with
  | none => exact .refl d
  | some k =>
    exact .trans (.trans (endSlot_sameBoard d active) (setLink_sameBoard _ _)) (atMoment_sameBoard _ _)

theorem endSlots_sameBoard (active : Bool) : SameBoard d (endSlots active d) := by
  unfold endSlots
  cases d.link.slot with
  | none => exact .refl d
  | some k =>
    exact .trans (endSlot_sameBoard d active)
      (.foldl (fun x j => .ite (.refl x) (silentOutcome_sameBoard x j)) _ _)

theorem routePeerItem_sameBoard (k : StationId) (item : Item) : SameBoard d (routePeerItem k d item) := by
  cases item with
  | present power job budget =>
    have lowered : SameBoard d (lowerBudget budget d) := .ite (.refl d) (setView_sameBoard d _)
    have stored := fun p : Peer => lowered.trans (setView_sameBoard _ { (lowerBudget budget d).view with
      peers := (lowerBudget budget d).view.peers.set k p })
    exact .ite ((stored _).trans (raiseCause_sameBoard _ _)) (stored _)
  | disturb lag => exact setView_sameBoard d _
  | ask w => exact .trans (setView_sameBoard d _) (setView_sameBoard _ _)
  | forBench => exact .refl d
  | command c => exact .refl d

/-! ### Transmission, the frame's end and the cadence (R2, R6, R7, R16 to R19) -/

theorem beginMessage_sameBoard : SameBoard d (beginMessage d) :=
  .ite (.trans (setLink_sameBoard d _) (atMoment_sameBoard _ _)) (.refl d)

theorem collide_sameBoard : SameBoard d (collide d) := by
  unfold collide
  split
  · split
    · exact .trans (.trans (setLink_sameBoard d _) (atMoment_sameBoard _ _)) (addError_sameBoard _ _)
    · exact .refl d
  · exact .refl d

theorem transmissionEnd_sameBoard : SameBoard d (transmissionEnd d) := by
  unfold transmissionEnd sentClean
  split
  · rw [noteOwnAsk_eq]
    exact ⟨rfl, rfl, rfl, rfl, rfl, rfl⟩
  · exact .refl d

theorem endRun_sameBoard : SameBoard d (endRun d) := by
  have counted := setLink_sameBoard d { d.link with collisionRun := d.link.collisionRun + 1 }
  exact .ite (.ite (counted.trans (.trans (raiseCause_sameBoard _ .duplicateBay) ⟨rfl, rfl, rfl, rfl, rfl, rfl⟩))
    counted) (.refl d)

theorem endFrame_sameBoard (active : Bool) : SameBoard d (endFrame active d) :=
  .trans (.trans (endSlots_sameBoard d active) (setLink_sameBoard _ _)) (endRun_sameBoard _)

theorem recoverMuted_sameBoard (high : Nat) : SameBoard d (recoverMuted high d) :=
  .ite (setLink_sameBoard d _) (.refl d)

theorem drivePulse_sameBoard (moment : Nat) : SameBoard d (drivePulse moment d) :=
  .ite (setLink_sameBoard d _) (.refl d)

theorem stuckLow_sameBoard : SameBoard d (stuckLow d) :=
  .trans (raiseCause_sameBoard d _) (setLink_sameBoard _ _)

theorem cleanRelease_sameBoard : SameBoard d (cleanRelease d) := .ite (setLink_sameBoard d _) (.refl d)

/-- A reply leaves every block but the bench handler (R181). -/
theorem offerReply_sameBoard (kind seq : Byte) (a : Answer) : SameBoard d (offerReply kind seq a d) :=
  .ite (.refl d) ⟨rfl, rfl, rfl, rfl, rfl, rfl⟩

end

/-! ### The walk -/

/-- A property that some work of the block keeps. -/
def Keeps (P : Device → Prop) (f : Device → Device) : Prop := ∀ d, P d → P (f d)

/-- A property of the board, pattern memory, the lanes, the engine and the job that each part of the commands which
works on them keeps. -/
structure KeptByParts (P : Device → Prop) : Prop where
  same : ∀ {d d' : Device}, SameBoard d d' → P d → P d'
  cold : ∀ (bay : BitVec 4) (budget : BitVec 2), P (Device.cold bay budget)
  sample : ∀ (c : Channel) (v : Nat), Keeps P (sampleChannel c v)
  stepExpiry : ∀ i : LaneId, Keeps P (stepExpiry i)
  dwellEnd : Keeps P dwellEnd
  mark : ∀ view : MarkView, Keeps P (handleMark view)
  load : ∀ args : List Byte, Keeps P fun d => (bodyLoad args d).1
  jobLanes : ∀ args : List Byte, Keeps P fun d => (bodyJobLanes args d).1
  settings : ∀ n : NamedSettings, Keeps P (acceptSettings n)
  start : ∀ keep : Bool, Keeps P (startJob keep)
  pause : Keeps P fun d => (bodyPause d).1
  resume : Keeps P fun d => (bodyResume d).1
  abort : Keeps P abortJob
  power : Keeps P givePower
  powerOff : Keeps P givePowerOff
  clearTable : Keeps P clearTable
  pin : ∀ (serial : Nat) (pinned : Bool), Keeps P (setPin serial pinned)
  restart : Keeps P warmRestart

section

variable {P : Device → Prop}

theorem Keeps.foldl {α : Type} {f : Device → α → Device} (h : ∀ a, Keeps P fun d => f d a) (l : List α) :
    Keeps P fun d => l.foldl f d := by
  intro d hd
  induction l generalizing d with
  | nil => exact hd
  | cons a l ih => exact ih _ (h a d hd)

namespace KeptByParts

variable (h : KeptByParts P)

theorem bodyQueryTable (args : List Byte) : Keeps P fun d => (bodyQueryTable args d).1 := by
  intro d hd
  dsimp only [Machine.bodyQueryTable]
  split_ifs <;> exact hd

theorem bodyQuerySnapshot (args : List Byte) : Keeps P fun d => (bodyQuerySnapshot args d).1 := by
  intro d hd
  dsimp only [Machine.bodyQuerySnapshot, wholeReadout]
  split
  · exact hd
  · split_ifs <;> exact hd

include h

/-- Work on the link, the peer view, the causes and the bench handler keeps the property. -/
theorem sameBoard {f : Device → Device} (hf : ∀ d, SameBoard d (f d)) : Keeps P f := fun d hd => h.same (hf d) hd

/-- An item keeps what its execution keeps: every other answer changes the link or the bench handler alone. -/
theorem handleItem {body : Device → Device × Answer} (hb : Keeps P fun d => (body d).1) (kind seq : Byte)
    (ok : Bool) : Keeps P (handleItem kind seq ok body) := by
  intro d hd
  unfold Machine.handleItem
  split_ifs
  · exact h.same (addError_sameBoard d _) hd
  · exact h.same (offerReply_sameBoard _ kind seq _) (hb d hd)
  · exact h.same (offerReply_sameBoard d kind seq _) hd

theorem bodyJobRails (args : List Byte) : Keeps P fun d => (bodyJobRails args d).1 := by
  intro d hd
  dsimp only [Machine.bodyJobRails]
  split_ifs
  · exact hd
  · exact h.settings _ d hd

theorem bodyStart (args : List Byte) : Keeps P fun d => (bodyStart args d).1 := by
  intro d hd
  dsimp only [Machine.bodyStart]
  split_ifs
  · exact h.start _ d hd
  · exact hd

theorem bodyAbort : Keeps P fun d => (bodyAbort d).1 := by
  intro d hd
  dsimp only [Machine.bodyAbort]
  split_ifs
  · dsimp only
    exact h.abort d hd
  · exact hd

theorem bodyPower (args : List Byte) : Keeps P fun d => (bodyPower args d).1 := by
  intro d hd
  dsimp only [Machine.bodyPower]
  split_ifs
  · exact hd
  · exact hd
  · exact h.power d hd
  · exact h.powerOff d hd

theorem bodyClearTable : Keeps P fun d => (bodyClearTable d).1 := by
  intro d hd
  dsimp only [Machine.bodyClearTable]
  split_ifs
  · exact hd
  · exact h.clearTable d hd

theorem bodyPin (args : List Byte) : Keeps P fun d => (bodyPin args d).1 := by
  intro d hd
  dsimp only [Machine.bodyPin]
  split
  · exact hd
  · split_ifs
    · exact hd
    · exact hd
    · exact h.pin _ true d hd

theorem bodyUnpin (args : List Byte) : Keeps P fun d => (bodyUnpin args d).1 := by
  intro d hd
  dsimp only [Machine.bodyUnpin]
  split
  · exact hd
  · exact h.pin _ false d hd

theorem bodyClearCauses (args : List Byte) : Keeps P fun d => (bodyClearCauses args d).1 :=
  h.sameBoard fun _ => ⟨rfl, rfl, rfl, rfl, rfl, rfl⟩

theorem bodyReplyLimit (args : List Byte) : Keeps P fun d => (bodyReplyLimit args d).1 :=
  h.sameBoard fun _ => ⟨rfl, rfl, rfl, rfl, rfl, rfl⟩

/-- Every command item, whatever its kind. -/
theorem itemByKind (kind seq : Byte) (args : List Byte) : Keeps P (itemByKind kind seq args) := by
  intro d hd
  have query : ∀ f : Device → List Byte, Keeps P fun x => (cut (f x) (nat16 args 0) x).1 := fun _ _ hx => hx
  unfold Machine.itemByKind
  split
  · exact h.handleItem (h.load args) _ _ _ d hd
  · exact h.handleItem (h.jobLanes args) _ _ _ d hd
  · exact h.handleItem (h.bodyJobRails args) _ _ _ d hd
  · exact h.handleItem (body := bodyJobLimits args) (h.settings _) _ _ _ d hd
  · exact h.handleItem (body := bodyJobCauses args) (h.settings _) _ _ _ d hd
  · exact h.handleItem (h.bodyStart args) _ _ _ d hd
  · exact h.handleItem h.pause _ _ _ d hd
  · exact h.handleItem h.resume _ _ _ d hd
  · exact h.handleItem h.bodyAbort _ _ _ d hd
  · exact h.handleItem (h.bodyPower args) _ _ _ d hd
  · exact h.handleItem h.bodyClearTable _ _ _ d hd
  · exact h.handleItem (h.bodyPin args) _ _ _ d hd
  · exact h.handleItem (h.bodyUnpin args) _ _ _ d hd
  · exact h.handleItem (query fun x => headerReadout x.engine) _ _ _ d hd
  · exact h.handleItem (bodyQueryTable args) _ _ _ d hd
  · exact h.handleItem (bodyQuerySnapshot args) _ _ _ d hd
  · exact h.handleItem (query causesReadout) _ _ _ d hd
  · exact h.handleItem (h.bodyClearCauses args) _ _ _ d hd
  · exact h.handleItem (query lanesReadout) _ _ _ d hd
  · exact h.handleItem (query jobReadout) _ _ _ d hd
  · exact h.handleItem (query peersReadout) _ _ _ d hd
  · exact h.handleItem (query fun x => monitorReadout x.power) _ _ _ d hd
  · exact h.handleItem (h.bodyReplyLimit args) _ _ _ d hd
  · exact h.handleItem (body := bodyRestart) h.restart _ _ _ d hd
  · exact h.handleItem (body := answering .unknown) (fun _ hx => hx) _ _ _ d hd

/-! ### Messages (R13 to R15, R180) -/

theorem blockEvent (e : BlockEvent) : Keeps P fun d => blockEvent d e := by
  intro d hd
  cases e with
  | step i pins => exact h.stepExpiry i _ (h.same (presentPins_sameBoard d i pins) hd)
  | sample c v => exact h.sample c v d hd

theorem routeItem (k : StationId) (item : Item) : Keeps P fun d => routeItem k d item := by
  cases item with
  | command c =>
    intro d hd
    dsimp only [Machine.routeItem]
    split_ifs
    · exact h.itemByKind _ _ _ d hd
    · exact hd
  | present power job budget =>
    exact h.sameBoard fun d => routePeerItem_sameBoard d k (.present power job budget)
  | disturb lag => exact h.sameBoard fun d => routePeerItem_sameBoard d k (.disturb lag)
  | ask w => exact h.sameBoard fun d => routePeerItem_sameBoard d k (.ask w)
  | forBench => exact h.sameBoard fun d => routePeerItem_sameBoard d k .forBench

theorem commandItems (items : List Item) (between : List (List BlockEvent)) :
    Keeps P (commandItems items between) := by
  intro d hd
  induction items generalizing between d with
  | nil => exact hd
  | cons item rest ih =>
    have routed := h.routeItem 0 item d hd
    cases rest with
    | nil => exact routed
    | cons next rest => exact ih _ _ (Keeps.foldl h.blockEvent _ _ routed)

theorem messageEvent (bytes : List Byte) (view : MessageView) : Keeps P (messageEvent bytes view) := by
  intro d hd
  have shown : SameBoard d { d with pins := view.pins } := presentAllPins_sameBoard d view.pins
  unfold Machine.messageEvent
  split
  · split_ifs
    · unfold completeMessage
      split
      · exact h.same (shown.trans (discard_sameBoard _ _ _)) hd
      · have received := fun k => h.same
          (shown.trans (.trans (setReception_sameBoard _ .done) (goodOutcome_sameBoard _ k))) hd
        unfold takeItems
        split_ifs
        · exact h.commandItems _ _ _ (received _)
        · exact Keeps.foldl (h.routeItem _) _ _ (received _)
    · exact hd
  · exact hd

/-! ### Marks (R2 to R4) -/

theorem acceptMark (seen : Bool) (moment : Nat) (view : MarkView) : Keeps P (acceptMark seen moment view) := by
  intro d hd
  have shown : SameBoard d { d with pins := view.pins } := presentAllPins_sameBoard d view.pins
  exact h.mark view _ (h.same (((shown.trans (atMoment_sameBoard _ moment)).trans
    (endFrame_sameBoard _ _)).trans (setLink_sameBoard _ _)) hd)

theorem candidateEdge (since : Nat) (view : MarkView) : Keeps P (candidateEdge since view) := by
  intro d hd
  dsimp only [Machine.candidateEdge]
  split_ifs
  · exact hd
  · exact h.acceptMark _ _ view d hd
  · exact h.same ((atMoment_sameBoard d _).trans (addError_sameBoard _ _)) hd

theorem cadenceExpiry (high : Nat) (view : MarkView) : Keeps P (cadenceExpiry high view) := fun d hd =>
  h.acceptMark _ _ view _ (h.same ((recoverMuted_sameBoard d high).trans (drivePulse_sameBoard _ _)) hd)

end KeptByParts

/-- A row that is a command item of a known kind is that item's handling, with the capture pins that the row
presents. -/
theorem exec_itemByKind {c : Instr} {kind seq : Byte} {args : List Byte} (s : State)
    (hc : itemParts c = some (kind, seq, args)) : exec c s = .next { s with
      toDevice := itemByKind kind seq args (presentAllPins (presented c s.pins) s.toDevice) } := by
  cases c <;> simp only [itemParts, reduceCtorEq, Option.some.injEq, Prod.mk.injEq] at hc <;>
    obtain ⟨rfl, rfl, rfl⟩ := hc <;> rfl

/-- A command that changes the block by work that keeps a property. -/
theorem kept_of_onDevice {f : Device → Device} (hf : Keeps P f) {s t : State} (hs : P s.toDevice)
    (ht : onDevice f s = .next t) : P t.toDevice := by
  cases ht
  exact hf _ hs

/-- Every command keeps what its parts keep. -/
theorem exec_kept (h : KeptByParts P) (c : Instr) {s t : State} (hs : P s.toDevice) (ht : exec c s = .next t) :
    P t.toDevice := by
  cases hp : itemParts c with
  | some parts =>
    obtain ⟨kind, seq, args⟩ := parts
    rw [exec_itemByKind s hp] at ht
    cases ht
    exact h.itemByKind kind seq args _ (h.same (presentAllPins_sameBoard _ _) hs)
  | none =>
    cases c with
    | coldStart bay budget => exact kept_of_onDevice (fun _ _ => h.cold bay budget) hs ht
    | cadenceTimerExpiry high view => exact kept_of_onDevice (h.cadenceExpiry high view) hs ht
    | candidateMark since view => exact kept_of_onDevice (h.candidateEdge since view) hs ht
    | pulseLineStuckLow => exact kept_of_onDevice (h.sameBoard fun d => stuckLow_sameBoard d) hs ht
    | cleanMarkRelease => exact kept_of_onDevice (h.sameBoard fun d => cleanRelease_sameBoard d) hs ht
    | headerReceived b0 b1 b2 b3 =>
      exact kept_of_onDevice (h.sameBoard fun d => headerEvent_sameBoard d b0 b1 b2 b3) hs ht
    | messageComplete bytes view => exact kept_of_onDevice (h.messageEvent bytes view) hs ht
    | lineIdleTimeout => exact kept_of_onDevice (h.sameBoard fun d => truncate_sameBoard d) hs ht
    | framingError => exact kept_of_onDevice (h.sameBoard fun d => truncate_sameBoard d) hs ht
    | slotEnd active => exact kept_of_onDevice (h.sameBoard fun d => slotEnd_sameBoard d active) hs ht
    | ownSlotTransmit => exact kept_of_onDevice (h.sameBoard fun d => beginMessage_sameBoard d) hs ht
    | collision => exact kept_of_onDevice (h.sameBoard fun d => collide_sameBoard d) hs ht
    | transmissionClean => exact kept_of_onDevice (h.sameBoard fun d => transmissionEnd_sameBoard d) hs ht
    | converterSample c v => exact kept_of_onDevice (h.sample c v) hs ht
    | stepTimerExpiry i pins =>
      exact kept_of_onDevice (fun d hd => h.stepExpiry i _ (h.same (presentPins_sameBoard d i pins) hd)) hs ht
    | dwellEnd => exact kept_of_onDevice h.dwellEnd hs ht
    | unknownCommand kind seq args => exact kept_of_onDevice (h.itemByKind kind seq args) hs ht
    | _ => exact absurd hp (by simp [itemParts])

/-- Every step keeps what the parts of the commands keep; a clock period changes the time alone. -/
theorem step_kept (h : KeptByParts P) {s t : State} (hs : P s.toDevice) (ht : step s = .next t) : P t.toDevice := by
  unfold step at ht
  split at ht
  · cases ht
    exact h.sameBoard (f := fun d => { d with now := d.now + 1 }) (fun _ => ⟨rfl, rfl, rfl, rfl, rfl, rfl⟩) _ hs
  · next c rest _ => exact exec_kept (s := { s with pending := rest }) h c hs ht

end

end Sys2Proof.Machine
end


section
/-! Pattern memory and LOAD (R66, R67): the tests of a LOAD and the words it writes, and the canonical form across every
step. -/

namespace Sys2Proof.Machine

open Sys2Proof.Safety

variable (d : Device)

/-! ### The tests of a LOAD (R67) -/

/-- A LOAD of these arguments has a count and a last address in range. -/
def loadFits (args : List Byte) : Prop := 1 ≤ nat8 args 2 ∧ nat8 args 2 ≤ 30 ∧ nat16 args 0 + nat8 args 2 - 1 ≤ 32767

theorem lanesReading_iff : lanesReading d = true ↔ ∃ i : LaneId, (lane d i).state = .playing ∨
    (lane d i).state = .finishing ∨ (lane d i).state = .held := by
  have reading_iff : ∀ st : LaneState, st.reading = true ↔ st = .playing ∨ st = .finishing ∨ st = .held := by
    intro st
    cases st <;> decide
  simp [lanesReading, allLanes, reading_iff]

theorem length_loadWords (args : List Byte) : (loadWords args).length = nat8 args 2 := by simp [loadWords]

theorem getD_loadWords {args : List Byte} {k : Nat} (hk : k < nat8 args 2) :
    (loadWords args).getD k 0 = BitVec.ofNat 16 (nat16 args (3 + 2 * k)) := by
  simp [loadWords, List.getD_eq_getElem?_getD, hk]

theorem bodyLoad_range {args : List Byte} (h : ¬loadFits args) : bodyLoad args d = answering .range d := by
  unfold loadFits at h
  unfold bodyLoad Config.patternWords
  dsimp only
  split_ifs
  · rfl
  · rfl
  · omega
  · omega

theorem bodyLoad_busy {args : List Byte} (h : loadFits args) (reading : lanesReading d = true) :
    bodyLoad args d = answering .busy d := by
  unfold loadFits at h
  unfold bodyLoad Config.patternWords
  dsimp only
  rw [if_neg (by omega), if_neg (by omega), if_pos reading]

theorem bodyLoad_accepted {args : List Byte} (h : loadFits args) (reading : lanesReading d ≠ true) :
    bodyLoad args d = ({ d with pattern := patternWriteAll (nat16 args 0) (loadWords args) d.pattern },
      { reason := .accepted }) := by
  unfold loadFits at h
  unfold bodyLoad Config.patternWords
  dsimp only
  rw [if_neg (by omega), if_neg (by omega), if_neg reading]

/-- The words of a LOAD that fits lie within memory. -/
theorem loadWords_within {args : List Byte} (h : loadFits args) :
    nat16 args 0 + (loadWords args).length ≤ Config.patternWords := by
  obtain ⟨least, -, last⟩ := h
  rw [length_loadWords, Config.patternWords]
  omega

/-! ### The canonical form -/

/-- Pattern memory in its canonical form. -/
def PatternCanonical (d : Device) : Prop := patternWf d.pattern = true

/-- Work that leaves pattern memory keeps its form. -/
theorem patternCanonical_of_work {f : Device → Device} (hf : ∀ d, WorkKeeps d (f d)) : Keeps PatternCanonical f := by
  intro d hd
  rwa [PatternCanonical, (hf d).pattern]

theorem bodyLoad_patternCanonical (args : List Byte) : Keeps PatternCanonical fun d => (bodyLoad args d).1 := by
  intro d hd
  change PatternCanonical (bodyLoad args d).1
  by_cases fits : loadFits args
  · by_cases reading : lanesReading d = true
    · rwa [bodyLoad_busy d fits reading]
    · rw [bodyLoad_accepted d fits reading]
      exact patternWf_patternWriteAll hd (loadWords_within fits)
  · rwa [bodyLoad_range d fits]

theorem startJob_pattern (keep : Bool) : (startJob keep d).pattern = d.pattern := by
  unfold startJob
  dsimp only
  split_ifs
  · exact (jobPowerOn_keeps _).pattern
  · rfl
  · exact (jobPowerOn_keeps _).pattern
  · rfl

theorem bodyPause_keeps : WorkKeeps d (bodyPause d).1 := by
  unfold bodyPause
  split_ifs
  · exact .trans (setJob_keeps d _) (giveLanesAndTest_keeps _ _)
  · exact .refl d

theorem bodyResume_keeps : WorkKeeps d (bodyResume d).1 := by
  unfold bodyResume
  split_ifs
  · exact .trans (.trans (enterClosing_keeps d _) (giveResume_keeps _)) (closingTest_keeps _)
  · exact .trans (setJob_keeps d _) (giveResume_keeps _)
  · exact .refl d

theorem acceptSettings_keeps (n : NamedSettings) : WorkKeeps d (acceptSettings n d) :=
  .ite (setJob_keeps d _) (inForce_keeps d n)

theorem handleMark_pattern (view : MarkView) : (handleMark view d).pattern = d.pattern := by
  rw [(handleMark_keeps view d).pattern, peerMark_eq]

theorem patternCanonical_kept : KeptByParts PatternCanonical where
  same h hd := by rwa [PatternCanonical, h.pattern]
  cold _ _ := rfl
  sample c v := patternCanonical_of_work fun d => sampleChannel_keeps d c v
  stepExpiry i := patternCanonical_of_work fun d => stepExpiry_keeps d i
  dwellEnd := patternCanonical_of_work dwellEnd_keeps
  mark view d hd := by rwa [PatternCanonical, handleMark_pattern]
  load := bodyLoad_patternCanonical
  jobLanes args d hd := by
    unfold bodyJobLanes
    dsimp only
    split_ifs <;> exact hd
  settings n := patternCanonical_of_work fun d => acceptSettings_keeps d n
  start keep d hd := by rwa [PatternCanonical, startJob_pattern]
  pause := patternCanonical_of_work bodyPause_keeps
  resume := patternCanonical_of_work bodyResume_keeps
  abort := patternCanonical_of_work abortJob_keeps
  power := patternCanonical_of_work givePower_keeps
  powerOff := patternCanonical_of_work givePowerOff_keeps
  clearTable _ hd := hd
  pin _ _ _ hd := hd
  restart _ hd := hd

end Sys2Proof.Machine

namespace Sys2Proof.Proofs

open Sys2Proof.Machine Sys2Proof.Safety

/-- Settles O50: a LOAD alone writes pattern memory, within its 32,768 words, and a cold start empties it. -/
theorem stepKeepsPatternCanonical : Obligations.StepKeepsPatternCanonical :=
  fun _ _ canonical next => step_kept patternCanonical_kept canonical next

theorem exec_load (s : State) (seq : Byte) (args : List Byte) (room : hasRoom s) (length : loadLengthOk args = true) :
    exec (.load seq args) s = .next { s with
      toDevice := offerReply 0x01 seq (bodyLoad args s.toDevice).2 (bodyLoad args s.toDevice).1 } := by
  change Host.Outcome.next { s with toDevice := itemLoad seq args s.toDevice } = _
  rw [itemLoad, length, handleItem_executed _ _ _ _ room]

/-- Settles O27: the tests of a LOAD in their order, and with none failing the words it writes. -/
theorem loadWritesItsWords : Obligations.LoadWritesItsWords := by
  intro s seq args room canonical short length first count fits running
  have run := exec_load s seq args room (decide_eq_true ⟨short, length⟩)
  refine ⟨fun bad => ?range, fun good busy => ?busy, fun good idle => ?accepted⟩
  case range =>
    rw [run, bodyLoad_range _ bad]
    exact congrArg Host.Outcome.next (offerReply_answered s 0x01 seq { reason := .range })
  case busy =>
    rw [run, bodyLoad_busy _ good ((lanesReading_iff _).2 busy)]
    exact congrArg Host.Outcome.next (offerReply_answered s 0x01 seq { reason := .busy })
  case accepted =>
    refine ⟨patternWriteAll first (loadWords args) s.pattern, ?_, fun a => ?_⟩
    · rw [run, bodyLoad_accepted _ good (mt (lanesReading_iff _).1 idle)]
      exact congrArg Host.Outcome.next (offerReply_answered
        { s with pattern := patternWriteAll first (loadWords args) s.pattern } 0x01 seq { reason := .accepted })
    · rw [patternRead_patternWriteAll canonical (loadWords_within good), length_loadWords]
      split_ifs with inside
      · exact getD_loadWords (by omega)
      · rfl

end Sys2Proof.Proofs
end


section
/-! The words of the stream codes (R81, R199, R200): the code that a first word holds, by its top four bits. -/

namespace Sys2Proof.Machine

section

variable {w : Word}

theorem decodeCode_zero : decodeCode 0 = .stop := rfl

theorem decodeCode_topZero (h : w.toNat / 4096 = 0) (h0 : w ≠ 0) : decodeCode w = .undefinedCode := by
  unfold decodeCode
  rw [h]
  exact if_neg h0

theorem decodeCode_vector (h : w.toNat / 4096 = 1) : decodeCode w = .vector (w.setWidth 8) := by
  simp only [decodeCode, h, lowByte]

theorem decodeCode_hold (h : w.toNat / 4096 = 2) : decodeCode w = .hold (w.toNat % 4096) := by
  simp only [decodeCode, h]

theorem decodeCode_loop (h : w.toNat / 4096 = 3) : decodeCode w = .loop (w.setWidth 8 : Byte).toNat := by
  simp only [decodeCode, h, lowByte]

theorem decodeCode_again (h : w.toNat / 4096 = 4) : decodeCode w = .again := by
  simp only [decodeCode, h]

theorem decodeCode_strobe (h : w.toNat / 4096 = 5) : decodeCode w = .strobe (w.setWidth 8) := by
  simp only [decodeCode, h, lowByte]

theorem decodeCode_openWindow (h : w.toNat / 4096 = 6) : decodeCode w = .openWindow (w.setWidth 8) := by
  simp only [decodeCode, h, lowByte]

theorem decodeCode_closeWindow (h : w.toNat / 4096 = 7) : decodeCode w = .closeWindow (w.setWidth 8) := by
  simp only [decodeCode, h, lowByte]

theorem decodeCode_mark (h : w.toNat / 4096 = 8) : decodeCode w = .mark (w.setWidth 8) := by
  simp only [decodeCode, h, lowByte]

theorem decodeCode_rate (h : w.toNat / 4096 = 9) : decodeCode w = .rate := by
  simp only [decodeCode, h]

theorem decodeCode_park (h : w.toNat / 4096 = 10) : decodeCode w = .park (w.setWidth 8) := by
  simp only [decodeCode, h, lowByte]

theorem decodeCode_wrap (h : w.toNat / 4096 = 11) : decodeCode w = .wrap := by
  simp only [decodeCode, h]

theorem decodeCode_topHigh (h : 12 ≤ w.toNat / 4096) : decodeCode w = .undefinedCode := by
  have top : w.toNat / 4096 = 12 ∨ w.toNat / 4096 = 13 ∨ w.toNat / 4096 = 14 ∨ w.toNat / 4096 = 15 := by
    have := w.isLt
    omega
  rcases top with h | h | h | h <;> simp only [decodeCode, h]

end

/-- A code whose count, where it has one, fits its word: twelve bits of a HOLD and eight of a REPEAT (R199). -/
def Code.fits : Code → Prop
  | .hold n => n < 4096
  | .loop n => n < 256
  | _ => True

theorem fits_decodeCode (w : Word) : (decodeCode w).fits := by
  unfold decodeCode
  split
  · split_ifs <;> trivial
  case h_3 => exact Nat.mod_lt _ (by decide)
  case h_4 => exact (lowByte w).isLt
  all_goals trivial

theorem decodeCode_encodeCode_byte : ∀ v : Byte, decodeCode (encodeCode (.vector v)) = .vector v ∧
    decodeCode (encodeCode (.strobe v)) = .strobe v ∧ decodeCode (encodeCode (.openWindow v)) = .openWindow v ∧
    decodeCode (encodeCode (.closeWindow v)) = .closeWindow v ∧ decodeCode (encodeCode (.mark v)) = .mark v ∧
    decodeCode (encodeCode (.park v)) = .park v := by
  decide +kernel

theorem decodeCode_encodeCode_hold {n : Nat} (h : n < 4096) : decodeCode (encodeCode (.hold n)) = .hold n := by
  have word : (encodeCode (.hold n)).toNat = 0x2000 + n := by
    rw [encodeCode, BitVec.toNat_ofNat]
    omega
  rw [decodeCode_hold (by omega)]
  congr 1
  omega

theorem decodeCode_encodeCode_loop {n : Nat} (h : n < 256) : decodeCode (encodeCode (.loop n)) = .loop n := by
  have word : (encodeCode (.loop n)).toNat = 0x3000 + n := by
    rw [encodeCode, BitVec.toNat_ofNat]
    omega
  rw [decodeCode_loop (by omega), BitVec.toNat_setWidth]
  congr 1
  omega

/-- Every code is read back from its own word (R199, R200). -/
theorem decodeCode_encodeCode {c : Code} (h : c.fits) : decodeCode (encodeCode c) = c := by
  cases c with
  | stop => rfl
  | vector v => exact (decodeCode_encodeCode_byte v).1
  | hold n => exact decodeCode_encodeCode_hold h
  | loop n => exact decodeCode_encodeCode_loop h
  | again => rfl
  | strobe v => exact (decodeCode_encodeCode_byte v).2.1
  | openWindow v => exact (decodeCode_encodeCode_byte v).2.2.1
  | closeWindow v => exact (decodeCode_encodeCode_byte v).2.2.2.1
  | mark v => exact (decodeCode_encodeCode_byte v).2.2.2.2.1
  | rate => rfl
  | park v => exact (decodeCode_encodeCode_byte v).2.2.2.2.2
  | wrap => rfl
  | undefinedCode => rfl

end Sys2Proof.Machine

namespace Sys2Proof.Proofs

open Sys2Proof.Machine

/-- Settles O16: the top four bits of a first word choose its code, and the rest of the word its operand. -/
theorem streamWordsDecode : Obligations.StreamWordsDecode := by
  intro w
  refine ⟨fun top => ?_, fun v hv => ?_, fun n hn hw => ?_, decodeCode_again, decodeCode_rate, decodeCode_wrap,
    decodeCode_topHigh, decodeCode_encodeCode (fits_decodeCode w)⟩
  · split_ifs with h0
    · rw [h0, decodeCode_zero]
    · exact decodeCode_topZero top h0
  · subst hv
    exact ⟨decodeCode_vector, decodeCode_loop, decodeCode_strobe, decodeCode_openWindow, decodeCode_closeWindow,
      decodeCode_mark, decodeCode_park⟩
  · rw [decodeCode_hold (by omega)]
    congr 1
    omega

end Sys2Proof.Proofs
end


section
/-! The codes of a run (R68 to R83), one by one, and the step event that runs them (R87, R88, R90, R101). -/

namespace Sys2Proof.Machine

open Sys2Proof.Safety

/-! ### The lead lane and code faults -/

theorem enabled_eq (d : Device) (i : LaneId) : enabled d i = (d.job.mask.getD 0).getLsbD i.val := by
  unfold enabled
  cases d.job.mask <;> simp

/-- The lead lane is the lowest-numbered lane of the enable mask (R96). -/
theorem leadLane_eq_some_iff (d : Device) (i : LaneId) : leadLane d = some i ↔ leads d i := by
  have first : ∀ p : LaneId → Bool, allLanes.find? p = some i ↔ p i = true ∧ ∀ j : LaneId, j < i → p j = false := by
    intro p
    simp only [List.find?_eq_some_iff_getElem]
    refine ⟨fun ⟨on, n, hn, hi, below⟩ => ⟨on, fun j hj => ?_⟩, fun ⟨on, below⟩ => ⟨on, i, by simp [allLanes], ?_⟩⟩
    · have place : i.val = n := by simp [← hi, allLanes]
      have hj' : j.val < n := place ▸ hj
      simpa [allLanes] using below j.val hj'
    · refine ⟨by simp [allLanes], fun n hn => ?_⟩
      simpa [allLanes] using below ⟨n, by omega⟩ hn
  unfold leadLane leads
  split_ifs with empty
  · simp [empty]
  · rw [first]
    simp [enabled_eq, empty]

section

variable (giving : Bool) (i : LaneId) (d : Device)

/-- A code fault is that of Safety.lean (R83, R94). -/
theorem codeFaulted_codeFault (k : FaultKind) : codeFaulted d (codeFault k i d) i k :=
  ⟨raiseCause_eq (setLane i { lane d i with state := .faulted, fault := some k, holdLeft := 0, timer := .stopped }
    (abandon i d)) .codeFault, occurred_raiseCause _ .codeFault⟩

/-! ### One code -/

/-- The first word at the lane's position. -/
def codeAt : Code := decodeCode (patternRead d.pattern (lane d i).position)

/-- What a code with all its words leads to (R70 to R81). -/
def codeEffect : Code → CodeResult
  | .stop => .over (streamStop i d)
  | .vector v => .over (driveVector v i d)
  | .hold n => .over (driveHold n i d)
  | .loop n => repeatCode n i d
  | .again => againCode i d
  | .strobe tag =>
    .next (strobe i tag (highByte (secondWord i d)) (lowByte (secondWord i d)) (advance 2 i d)) []
  | .openWindow tag => .next (openWindow i tag (advance 1 i d)) []
  | .closeWindow tag => .next (closeWindow i tag (secondWord i d) (advance 2 i d)) []
  | .mark k => markCode giving k i (advance 1 i d)
  | .rate => .next (advance 2 i (setLane i { lane d i with period := max 2 (secondWord i d).toNat } d)) []
  | .park v => .next (advance 1 i (setLane i { lane d i with park := v } d)) []
  | .wrap => wrapCode i d
  | .undefinedCode => .over (codeFault .undefinedCode i d)

variable {giving i d}

theorem oneCode_of_fits (h : codeWords (codeAt i d) = 2 → (lane d i).position ≠ 32767) :
    oneCode giving i d = codeEffect giving i d (codeAt i d) := by
  have fits : ¬(codeWords (codeAt i d) = 2 ∧ (lane d i).position + 1 = Config.patternWords) := by
    rintro ⟨two, last⟩
    exact h two (Nat.succ.inj last)
  refine (if_neg fits).trans ?_
  unfold codeAt
  cases decodeCode (patternRead d.pattern (lane d i).position) <;> rfl

theorem oneCode_of_last (two : codeWords (codeAt i d) = 2) (last : (lane d i).position = 32767) :
    oneCode giving i d = .over (codeFault .bounds i d) :=
  if_pos ⟨two, by rw [last]; rfl⟩

/-! ### A run, by the code it begins with -/

variable (giving i) in
/-- A run after the result of its code, with room for some more non-step codes. -/
def continueRun (room : Nat) : CodeResult → Device × List Deferred
  | .over d => (d, [])
  | .next d later => ((codeRun giving i room d).1, later ++ (codeRun giving i room d).2)

theorem codeRun_past (room : Nat) (h : 32768 ≤ (lane d i).position) :
    codeRun giving i room d = (codeFault .bounds i d, []) := by
  cases room with
  | zero => exact congrArg (·, []) (if_pos h)
  | succ room => exact if_pos h

theorem codeRun_last (inside : (lane d i).position < 32768) : codeRun giving i 0 d = (lastCode i d, []) :=
  congrArg (·, []) (if_neg (Nat.not_le.2 inside))

theorem codeRun_succ (inside : (lane d i).position < 32768) (room : Nat) :
    codeRun giving i (room + 1) d = continueRun giving i room (oneCode giving i d) := by
  refine (if_neg (Nat.not_le.2 inside)).trans ?_
  cases oneCode giving i d <;> rfl

/-- A run whose code has all its words. -/
theorem codeRun_code {c : Code} (inside : (lane d i).position < 32768) (hc : codeAt i d = c)
    (room : Nat) (h : codeWords c = 2 → (lane d i).position ≠ 32767 := by nofun) :
    codeRun giving i (room + 1) d = continueRun giving i room (codeEffect giving i d c) := by
  subst hc
  rw [codeRun_succ inside, oneCode_of_fits h]

theorem lastCode_vector {v : Byte} (hc : codeAt i d = .vector v) : lastCode i d = driveVector v i d := by
  unfold codeAt at hc
  simp only [lastCode, hc]

theorem lastCode_hold {n : Nat} (hc : codeAt i d = .hold n) : lastCode i d = driveHold n i d := by
  unfold codeAt at hc
  simp only [lastCode, hc]

theorem lastCode_stepless (hc : isStepCode (codeAt i d) = false) : lastCode i d = codeFault .stepless i d := by
  unfold lastCode
  split
  case h_1 step => simp [codeAt, step, isStepCode] at hc
  case h_2 step => simp [codeAt, step, isStepCode] at hc
  case h_3 => rfl

/-- A run that begins at a VECTOR drives it and ends, whatever its room (R71, R82). -/
theorem codeRun_vector {v : Byte} (inside : (lane d i).position < 32768) (hc : codeAt i d = .vector v) (room : Nat) :
    codeRun giving i room d = (driveVector v i d, []) := by
  cases room with
  | zero => rw [codeRun_last inside, lastCode_vector hc]
  | succ room => rw [codeRun_code inside hc room]; rfl

/-- A run that begins at a HOLD takes its hold steps and ends, whatever its room (R72, R82). -/
theorem codeRun_hold {n : Nat} (inside : (lane d i).position < 32768) (hc : codeAt i d = .hold n) (room : Nat) :
    codeRun giving i room d = (driveHold n i d, []) := by
  cases room with
  | zero => rw [codeRun_last inside, lastCode_hold hc]
  | succ room => rw [codeRun_code inside hc room]; rfl

theorem isStepCode_decodeCode {w : Word} (h1 : w.toNat / 4096 ≠ 1) (h2 : w.toNat / 4096 ≠ 2) :
    isStepCode (decodeCode w) = false := by
  unfold decodeCode
  split
  · split_ifs <;> rfl
  · contradiction
  · contradiction
  all_goals rfl

/-! ### What the codes do, in the terms of the device -/

theorem setLane_setLane (i : LaneId) (l m : Lane) (d : Device) : setLane i m (setLane i l d) = setLane i m d := by
  simp [setLane]

theorem setCapture_setCapture (i : LaneId) (b c : Capture) (d : Device) :
    setCapture i c (setCapture i b d) = setCapture i c d := by
  simp [setCapture]

theorem advance_setLane (words : Nat) (i : LaneId) (l : Lane) (d : Device) :
    advance words i (setLane i l d) = setLane i { l with position := l.position + words } d := by
  rw [advance, lane_setLane_self, setLane_setLane]

theorem repeatCode_fault {n : Nat} (h : n = 0 ∨ 2 ≤ (lane d i).stack.length) :
    repeatCode n i d = .over (codeFault .loop i d) := if_pos h

theorem repeatCode_push {n : Nat} (h0 : n ≠ 0) (h : (lane d i).stack.length < 2) : repeatCode n i d =
    .next (setLane i { lane d i with stack := ⟨(lane d i).position + 1, n⟩ :: (lane d i).stack,
                                     position := (lane d i).position + 1 } d) [] :=
  if_neg (by omega)

theorem againCode_fault (h : (lane d i).stack = []) : againCode i d = .over (codeFault .loop i d) := by
  unfold againCode
  dsimp only
  rw [h]

theorem againCode_loop {e : LoopEntry} {rest : List LoopEntry} (h : (lane d i).stack = e :: rest) :
    againCode i d = .next (if 1 < e.remaining then
        setLane i { lane d i with stack := ⟨e.returnTo, e.remaining - 1⟩ :: rest, position := e.returnTo } d
      else setLane i { lane d i with stack := rest, position := (lane d i).position + 1 } d) [] := by
  unfold againCode
  dsimp only
  rw [h]
  dsimp only
  split_ifs <;> rfl

/-- An OPEN raises WINDOW-MISUSE where it finds a window open (R106). -/
theorem openWindow_eq (tag : Byte) : openWindow i tag d = { d with
    captures := d.captures.set i { capture d i with window := some tag, signature := 0xFFFF, count := 0 },
    causes := (openWindow i tag d).causes,
    link := { d.link with notices := (openWindow i tag d).link.notices } } := by
  unfold openWindow
  dsimp only
  split_ifs
  · exact raiseCause_eq _ .windowMisuse
  · rfl

theorem openWindow_of_closed (tag : Byte) (h : (capture d i).window = none) : openWindow i tag d =
    setCapture i { capture d i with window := some tag, signature := 0xFFFF, count := 0 } d :=
  if_neg (by simp [h])

theorem openWindow_of_open (tag : Byte) (h : (capture d i).window ≠ none) : openWindow i tag d =
    raiseCause .windowMisuse
      (setCapture i { capture d i with window := some tag, signature := 0xFFFF, count := 0 } d) :=
  if_pos (Option.isSome_iff_ne_none.2 h)

theorem markCode_note {k : Byte} (h : k ≠ 1) : markCode giving k i d =
    .next (raiseCause .streamNote (setLane i { lane d i with note := some k } d)) [] := if_neg h

theorem markCode_cycle {k : Byte} (hk : k = 1) (h : leads d i) :
    markCode giving k i d = .next (jobCycle giving d).1 (jobCycle giving d).2 :=
  (if_pos hk).trans (if_pos ((leadLane_eq_some_iff d i).2 h))

theorem markCode_otherLane {k : Byte} (hk : k = 1) (h : ¬leads d i) : markCode giving k i d = .next d [] :=
  (if_pos hk).trans (if_neg (mt (leadLane_eq_some_iff d i).1 h))

theorem wrapCode_stop (h : (lane d i).state = .finishing) : wrapCode i d = .over (streamStop i d) := if_pos h

theorem wrapCode_return (h : (lane d i).state ≠ .finishing) : wrapCode i d =
    .next (setLane i { lane d i with stack := [], position := d.job.starts[i] } d) [] := if_neg h

end

end Sys2Proof.Machine

namespace Sys2Proof.Proofs

open Sys2Proof.Machine Sys2Proof.Safety

/-- Settles O21: a run is its first code's effect and, where that does not end it, the run from there. -/
theorem codesOfARun : Obligations.CodesOfARun := by
  intro giving i d room run l w second top tag moved past faults halted
  have faulted : ∀ {r : Device × List Deferred} {k : FaultKind}, r = (codeFault k i d, []) → faults k r := by
    rintro _ k rfl
    exact ⟨codeFaulted_codeFault i d k, rfl⟩
  refine ⟨fun beyond => faulted (codeRun_past room beyond), fun inside => ?_⟩
  have code : ∀ {c : Code}, decodeCode w = c → (codeWords c = 2 → l.position ≠ 32767) →
      run (room + 1) d = continueRun giving i room (codeEffect giving i d c) := fun hc fits =>
    codeRun_code inside hc room fits
  refine ⟨fun t => codeRun_vector inside (decodeCode_vector t) room,
    fun t => codeRun_hold inside (decodeCode_hold t) room, fun t1 t2 => ?stepless, fun h0 => ?stop,
    fun h0 t => ?undefinedZero, fun t => ?undefinedHigh, fun t bad => ?loopFault, fun t n0 room2 => ?loopPush,
    fun t none => ?againFault, fun e rest t some => ?again, fun t last => ?cut, fun t fits => ?strobe,
    fun t => ?opening, fun t fits => ?closing, fun t one other => ?otherLane, fun t one leader => ?cycle,
    fun t note => ?note, fun t fits => ?rate, fun t => ?park, fun t finishing => ?wrapStop, fun t playing => ?wrap⟩
  case stepless =>
    exact faulted (by rw [show run 0 d = _ from codeRun_last inside,
      lastCode_stepless (isStepCode_decodeCode t1 t2)])
  case stop => exact code (c := .stop) (by rw [h0, decodeCode_zero]) nofun
  case undefinedZero => exact faulted (code (decodeCode_topZero t h0) nofun)
  case undefinedHigh => exact faulted (code (decodeCode_topHigh t) nofun)
  case loopFault =>
    refine faulted ((code (decodeCode_loop t) nofun).trans ?_)
    rw [codeEffect, repeatCode_fault (bad.imp_left fun zero => by rw [show w.setWidth 8 = _ from zero]; rfl)]
    rfl
  case loopPush =>
    rw [code (decodeCode_loop t) nofun, codeEffect,
      repeatCode_push (fun zero => n0 (BitVec.eq_of_toNat_eq zero)) room2]
    rfl
  case againFault =>
    refine faulted ((code (decodeCode_again t) nofun).trans ?_)
    rw [codeEffect, againCode_fault none]
    rfl
  case again =>
    rw [code (decodeCode_again t) nofun, codeEffect, againCode_loop some]
    rfl
  case cut =>
    have two : codeWords (decodeCode w) = 2 := by
      rcases t with t | t | t
      · rw [decodeCode_strobe t]; rfl
      · rw [decodeCode_closeWindow t]; rfl
      · rw [decodeCode_rate t]; rfl
    refine faulted ((codeRun_succ inside room).trans ?_)
    rw [oneCode_of_last two last]
    rfl
  case strobe => exact code (decodeCode_strobe t) fun _ => fits
  case opening =>
    refine ⟨openWindow i tag (past 1), code (decodeCode_openWindow t) nofun, openWindow_eq tag, fun shut => ?_,
      fun already => ?_⟩
    · rw [openWindow_of_closed (d := past 1) tag shut]
      exact ⟨rfl, rfl⟩
    · rw [openWindow_of_open (d := past 1) tag already]
      exact occurred_raiseCause _ .windowMisuse
  case closing => exact code (decodeCode_closeWindow t) fun _ => fits
  case otherLane =>
    rw [code (decodeCode_mark t) nofun, codeEffect, markCode_otherLane (d := advance 1 i d) one other]
    rfl
  case cycle =>
    rw [code (decodeCode_mark t) nofun, codeEffect, markCode_cycle (d := advance 1 i d) one leader]
    rfl
  case note =>
    refine ⟨_, (code (decodeCode_mark t) nofun).trans (by rw [codeEffect, markCode_note note]; rfl), ?_, ?_⟩
    · refine (raiseCause_eq _ .streamNote).trans ?_
      rw [advance, lane_setLane_self, setLane_setLane]
      rfl
    · exact occurred_raiseCause _ .streamNote
  case rate =>
    rw [code (decodeCode_rate t) fun _ => fits, codeEffect, advance_setLane]
    rfl
  case park =>
    rw [code (decodeCode_park t) nofun, codeEffect, advance_setLane]
    rfl
  case wrapStop =>
    rw [code (decodeCode_wrap t) nofun, codeEffect, wrapCode_stop finishing]
    rfl
  case wrap =>
    rw [code (decodeCode_wrap t) nofun, codeEffect, wrapCode_return playing]
    rfl

end Sys2Proof.Proofs
end


section
/-! The step event (R87, R88, R90, R101): a sample, then a hold step counted down or a run of the lane's codes. -/

namespace Sys2Proof.Machine

open Sys2Proof.Safety

variable {d : Device} {i : LaneId}

/-! ### The sample (R101) -/

/-- A capture lane fed with a sample: an open window takes the byte into its signature and counts it (R101). -/
def fedCapture (b : Byte) (c : Capture) : Capture :=
  if c.window.isSome then
    { c with sample := b, signature := crcByte c.signature b, count := min 65535 (c.count + 1) }
  else { c with sample := b }

theorem sampled_eq_fedCapture (b : Byte) (c : Capture) : sampled b c = fedCapture b c := by
  unfold sampled fedCapture
  cases c.window <;> rfl

/-- The block as the expiry of lane i's timer finds it, its pins presented and sampled (R87, R101). -/
def sampledDevice (i : LaneId) (b : Byte) (moment : Nat) (d : Device) : Device :=
  { d with pins := d.pins.set i b, now := moment, captures := d.captures.set i (fedCapture b (capture d i)) }

theorem takeSample_atMoment (i : LaneId) (b : Byte) (due : Nat) (d : Device) :
    takeSample i (atMoment due (presentPins i b d)) = sampledDevice i b (max d.now due) d := by
  have pin : (d.pins.set i b)[i] = b := by simp
  unfold takeSample
  rw [sampled_eq_fedCapture]
  change setCapture i (fedCapture (d.pins.set i b)[i] (capture d i)) _ = _
  rw [pin]
  rfl

/-! ### The event (R87) -/

theorem stepExpiry_of_running {due : Nat} (running : (lane d i).timer = .running due)
    (going : (lane d i).state.going = true) :
    stepExpiry i d = deliver (stepCore false i (atMoment due d)).2 (stepCore false i (atMoment due d)).1 := by
  unfold stepExpiry
  rw [running]
  exact if_pos going

theorem stepCore_hold {giving : Bool} (h : 0 < (lane d i).holdLeft) : stepCore giving i d =
    (loadTimer i (setLane i { lane d i with holdLeft := (lane d i).holdLeft - 1 } (takeSample i d)), []) := if_pos h

/-- The end of a step event whose run is over: the timer of a going lane is loaded, and a lane that has ended reports
to the job (R87, R88, R172). -/
def runEnded (i : LaneId) (d : Device) : Device :=
  if (lane d i).state.going then loadTimer i d else closingTest d

theorem stepCore_run (h : (lane d i).holdLeft = 0) : stepCore false i d =
    (runEnded i (codeRun false i 64 (takeSample i d)).1, (codeRun false i 64 (takeSample i d)).2) := by
  refine (if_neg (show ¬0 < (lane (takeSample i d) i).holdLeft from Nat.not_lt.2 (Nat.le_of_eq h))).trans ?_
  unfold runEnded
  by_cases going : (lane (codeRun false i 64 (takeSample i d)).1 i).state.going = true
  · rw [if_pos going]
    exact if_pos going
  · rw [if_neg going]
    exact if_neg going

theorem exec_stepTimerExpiry (s : State) (i : LaneId) (b : Byte) : exec (.stepTimerExpiry i b) s =
    .next { s with toDevice := stepExpiry i (presentPins i b s.toDevice) } := rfl

/-- A step event with hold steps left (R72, R87). -/
theorem exec_holdStep {s : State} (i : LaneId) (b : Byte) {due : Nat} (going : (lane s.toDevice i).state.going = true)
    (running : (lane s.toDevice i).timer = .running due) (h : 0 < (lane s.toDevice i).holdLeft) :
    exec (.stepTimerExpiry i b) s = .next { s with
      toDevice := loadTimer i (setLane i { lane s.toDevice i with holdLeft := (lane s.toDevice i).holdLeft - 1 }
        (sampledDevice i b (max s.now due) s.toDevice)) } := by
  rw [exec_stepTimerExpiry, stepExpiry_of_running (d := presentPins i b s.toDevice) running going,
    stepCore_hold (d := atMoment due (presentPins i b s.toDevice)) h, takeSample_atMoment]
  rfl

/-- A step event with no hold steps left runs the lane's codes (R68, R87). -/
theorem exec_runStep {s : State} (i : LaneId) (b : Byte) {due : Nat} (going : (lane s.toDevice i).state.going = true)
    (running : (lane s.toDevice i).timer = .running due) (h : (lane s.toDevice i).holdLeft = 0) :
    exec (.stepTimerExpiry i b) s = .next { s with
      toDevice := deliver (codeRun false i 64 (sampledDevice i b (max s.now due) s.toDevice)).2
        (runEnded i (codeRun false i 64 (sampledDevice i b (max s.now due) s.toDevice)).1) } := by
  rw [exec_stepTimerExpiry, stepExpiry_of_running (d := presentPins i b s.toDevice) running going,
    stepCore_run (d := atMoment due (presentPins i b s.toDevice)) h, takeSample_atMoment]

/-- A step event whose run leaves the lane going, and sets nothing off. -/
theorem exec_runStep_going {s : State} {i : LaneId} {b : Byte} {due : Nat} {l : Lane}
    (going : (lane s.toDevice i).state.going = true) (running : (lane s.toDevice i).timer = .running due)
    (h : (lane s.toDevice i).holdLeft = 0)
    (run : codeRun false i 64 (sampledDevice i b (max s.now due) s.toDevice) =
      (setLane i l (sampledDevice i b (max s.now due) s.toDevice), []))
    (goes : l.state.going = true) :
    exec (.stepTimerExpiry i b) s = .next { s with
      toDevice := setLane i { l with timer := .running (max s.now due + l.period) }
        (sampledDevice i b (max s.now due) s.toDevice) } := by
  rw [exec_runStep i b going running h, run, runEnded, lane_setLane_self, if_pos goes, loadTimer, lane_setLane_self,
    setLane_setLane]
  rfl

/-- A step event whose run ends the lane, and sets nothing off but the lane's report. -/
theorem exec_runStep_ended {s : State} {i : LaneId} {b : Byte} {due : Nat} {d : Device}
    (going : (lane s.toDevice i).state.going = true) (running : (lane s.toDevice i).timer = .running due)
    (h : (lane s.toDevice i).holdLeft = 0)
    (run : codeRun false i 64 (sampledDevice i b (max s.now due) s.toDevice) = (d, []))
    (ends : (lane d i).state.going = false) :
    exec (.stepTimerExpiry i b) s = .next { s with toDevice := closingTest d } := by
  rw [exec_runStep i b going running h, run, runEnded, if_neg (by simp [ends])]
  rfl

theorem lane_codeFault (k : FaultKind) (i : LaneId) (d : Device) : lane (codeFault k i d) i =
    { lane d i with state := .faulted, fault := some k, holdLeft := 0, timer := .stopped } := by
  simp [codeFault]

theorem lane_streamStop (i : LaneId) (d : Device) : lane (streamStop i d) i =
    { lane d i with state := .stopped, holdLeft := 0, timer := .stopped } := by
  simp [streamStop]

end Sys2Proof.Machine

namespace Sys2Proof.Proofs

open Sys2Proof.Machine Sys2Proof.Safety

/-- Settles O20: a step event is the sample and then the run, whose first code decides the cases. -/
theorem stepEventRunsCodes : Obligations.StepEventRunsCodes := by
  refine ⟨fun s i b due going running held => ?hold, fun s i b due going running noHold => ?run⟩
  case hold =>
    rw [exec_holdStep i b going running held, loadTimer, lane_setLane_self, setLane_setLane]
    rfl
  case run =>
    intro l c w moment fed d ran loaded closed
    refine ⟨fun inside top => ?vector, fun inside top => ?steps, fun inside zero => ?stop, fun bad => ?fault,
      exec_runStep i b going running noHold⟩
    case vector =>
      exact exec_runStep_going (l := { l with vector := w.setWidth 8, position := l.position + 1 }) going running noHold
        (codeRun_vector (d := d) inside (decodeCode_vector top) 64) going
    case steps =>
      exact exec_runStep_going (l := { l with holdLeft := w.toNat % 4096 - 1, position := l.position + 1 })
        going running noHold (codeRun_hold (d := d) inside (decodeCode_hold top) 64) going
    case stop =>
      have first : decodeCode w = .stop := by rw [zero, decodeCode_zero]
      have run : codeRun false i 64 d = (streamStop i d, []) := codeRun_code (d := d) inside first 63
      have stopped : streamStop i d = { d with
          captures := s.captures.set i { fed with window := none },
          lanes := s.lanes.set i { l with state := .stopped, timer := .stopped } } := by
        have lane_eq : { l with state := .stopped, holdLeft := 0, timer := .stopped } =
            { l with state := .stopped, timer := .stopped } := by rw [← noHold]
        have fed_eq : capture d i = fed := capture_setCapture_self _ _ _
        calc streamStop i d = setLane i { l with state := .stopped, holdLeft := 0, timer := .stopped }
              (setCapture i { capture d i with window := none }
                (setCapture i fed { d with captures := s.captures })) := rfl
          _ = _ := by rw [lane_eq, fed_eq, setCapture_setCapture]; rfl
      rw [exec_runStep_ended going running noHold run (by rw [lane_streamStop]; rfl), stopped]
    case fault =>
      have run : ∀ {k : FaultKind}, codeRun false i 64 d = (codeFault k i d, []) →
          ∃ d' : Device, codeFaulted d d' i k ∧
            exec (.stepTimerExpiry i b) s = .next { s with toDevice := closingTest d' } := fun run =>
        ⟨_, codeFaulted_codeFault i d _,
          exec_runStep_ended going running noHold run (by rw [lane_codeFault]; rfl)⟩
      by_cases past : 32768 ≤ l.position
      · rw [if_pos past]
        exact run (codeRun_past (d := d) 64 past)
      · have undefined : decodeCode w = .undefinedCode :=
          (bad.resolve_left past).elim decodeCode_topHigh fun ⟨h0, top⟩ => decodeCode_topZero top h0
        rw [if_neg past]
        exact run (codeRun_code (d := d) (Nat.not_le.1 past) undefined 63)

end Sys2Proof.Proofs
end


section
/-! The output gate (R95): the stimulus pins by the board power and the lane state, and the commands that close every
gate. -/

namespace Sys2Proof.Machine

open Sys2Proof.Safety

variable (d : Device) (i : LaneId)

/-! ### The gate -/

theorem going_iff (st : LaneState) : st.going = true ↔ st = .playing ∨ st = .finishing := by cases st <;> decide

theorem stimulusPins_open (on : d.power.state = .on) (going : (lane d i).state.going = true) :
    stimulusPins d i = (lane d i).vector :=
  if_pos (by simp [gateOpen, on, going])

theorem stimulusPins_shut (h : ¬(d.power.state = .on ∧ (lane d i).state.going = true)) :
    stimulusPins d i = (lane d i).park :=
  if_neg (by simpa [gateOpen] using h)

theorem stimulusPins_setLane_self {i : LaneId} {l : Lane} (on : d.power.state = .on) (going : l.state.going = true) :
    stimulusPins (setLane i l d) i = l.vector := by
  rw [stimulusPins_open (setLane i l d) i on (by rwa [lane_setLane_self]), lane_setLane_self]

theorem stimulusPins_congr {d e : Device} {i : LaneId} (power : e.power.state = d.power.state)
    (same : lane e i = lane d i) : stimulusPins e i = stimulusPins d i := by
  rw [stimulusPins, stimulusPins, gateOpen, gateOpen, power, same]

/-! ### Requests, and the closing test -/

/-- No lane goes, and each has the park vector it had. -/
def AllParked (d d' : Device) : Prop := ∀ i, (lane d' i).state.going = false ∧ (lane d' i).park = (lane d i).park

theorem AllParked.stimulusPins {d d' : Device} (h : AllParked d d') (i : LaneId) :
    stimulusPins d' i = (lane d i).park := by
  obtain ⟨rests, park⟩ := h i
  rw [stimulusPins_shut d' i (by simp [rests]), park]

theorem afterRequest_park (r : LaneRequest) (now : Nat) (l : Lane) : (afterRequest r now l).park = l.park := by
  unfold afterRequest
  split <;> rfl

/-- A hold, a stop and power leaving ON leave no lane going (R91, R92). -/
theorem afterRequest_going {r : LaneRequest} (hr : r ≠ .finish) (now : Nat) (l : Lane) :
    (afterRequest r now l).state.going = false := by
  cases r with
  | finish => exact absurd rfl hr
  | hold => cases h : l.state <;> simp [afterRequest, heldLane, LaneState.going, h]
  | stop => cases h : l.state <;> simp [afterRequest, stoppedLane, LaneState.going, h]
  | powerLeft => cases h : l.state <;> simp [afterRequest, stoppedLane, LaneState.going, h]

theorem giveLanes_allParked {r : LaneRequest} (hr : r ≠ .finish) : AllParked d (giveLanes r d) := fun i => by
  rw [lane_giveLanes]
  exact ⟨afterRequest_going hr _ _, afterRequest_park _ _ _⟩

/-- The closing test leaves a lane or has it take power leaving ON (R172). -/
theorem lane_closingTest : lane (closingTest d) i = lane d i ∨
    lane (closingTest d) i = afterRequest .powerLeft d.now (lane d i) := by
  have off := lane_requestOff d i
  have left : ∀ x : Device, lane (leaveClosing x) i = lane x i := fun x => by simp [lane]
  rcases closingTest_cases d with h | h | h | h <;> rw [h]
  · exact .inl rfl
  · rw [off]
    split_ifs
    · exact .inr rfl
    · exact .inl rfl
  · exact .inl (left d)
  · rw [left, off]
    split_ifs
    · exact .inr rfl
    · exact .inl rfl

theorem AllParked.of_lanes {d e e' : Device} (h : AllParked d e)
    (lanes : ∀ i, lane e' i = lane e i ∨ lane e' i = afterRequest .powerLeft e.now (lane e i)) : AllParked d e' := by
  intro i
  obtain ⟨rests, park⟩ := h i
  rcases lanes i with same | left
  · rw [same]
    exact ⟨rests, park⟩
  · rw [left, afterRequest_park]
    exact ⟨afterRequest_going (r := .powerLeft) nofun _ _, park⟩

theorem AllParked.closingTest {d e : Device} (h : AllParked d e) : AllParked d (closingTest e) :=
  h.of_lanes (lane_closingTest e)

theorem AllParked.requestOff {d e : Device} (h : AllParked d e) : AllParked d (requestOff e) :=
  h.of_lanes fun i => by
    rw [lane_requestOff]
    split_ifs
    · exact .inr rfl
    · exact .inl rfl

/-! ### PAUSE, ABORT and RESTART (R92, R171, R192) -/

theorem bodyPause_allParked (running : d.job.state = .running) : AllParked d (bodyPause d).1 := by
  have held : AllParked d (giveLanes .hold (setJob { d.job with state := .paused } d)) :=
    giveLanes_allParked (setJob { d.job with state := .paused } d) nofun
  rw [bodyPause, if_pos running]
  unfold giveLanesAndTest
  dsimp only
  split_ifs
  · exact held.closingTest
  · exact held

theorem bodyAbort_allParked (active : d.job.state.active = true) : AllParked d (bodyAbort d).1 := by
  rw [bodyAbort, if_pos active]
  dsimp only [abortJob]
  refine AllParked.closingTest (AllParked.requestOff fun i => ?_)
  have entered : ∀ j : Device, j.lanes = d.lanes → (lane (giveLanes .stop j) i).state.going = false ∧
      (lane (giveLanes .stop j) i).park = (lane d i).park := fun j same => by
    have parked := giveLanes_allParked j (r := .stop) nofun i
    rwa [show lane j i = lane d i by rw [lane, same]; rfl] at parked
  refine entered _ ?_
  split_ifs
  · rfl
  · exact enterClosing_lanes d _

theorem warmRestart_allParked : AllParked d (warmRestart d) := fun i => by
  have restarted : lane (warmRestart d) i = (lane d i).restarted := by simp [warmRestart, lane]
  rw [restarted]
  exact ⟨rfl, rfl⟩

/-- An item that is executed, and leaves every lane parked, is answered and leaves them so. -/
theorem handleItem_allParked {s : State} {body : Device → Device × Answer} (room : hasRoom s)
    (h : AllParked s.toDevice (body s.toDevice).1) (kind seq : Byte) (i : LaneId) :
    stimulusPins (handleItem kind seq true body s.toDevice) i = (lane s.toDevice i).park := by
  rw [handleItem_executed _ _ _ _ room]
  have answered : ∀ j, lane (offerReply kind seq (body s.toDevice).2 (body s.toDevice).1) j =
      lane (body s.toDevice).1 j := fun j => by simp [lane]
  exact AllParked.stimulusPins (fun j => by rw [answered]; exact h j) i

end Sys2Proof.Machine

namespace Sys2Proof.Proofs

open Sys2Proof.Machine Sys2Proof.Safety

/-- Settles O24: the gate is open for a going lane with power ON; a VECTOR then shows, and a PAUSE, an ABORT and a
RESTART leave no lane going. -/
theorem stimulusPinsShowVectorOrPark : Obligations.StimulusPinsShowVectorOrPark := by
  refine ⟨fun d i => ⟨fun ⟨on, goes⟩ => ?gateOpen, fun shut => ?gateShut⟩,
    fun s i b due going running noHold inside on => ?vector, fun s seq room => ⟨fun inRun => ?pause,
      fun active => ?abort, ?restart⟩⟩
  case gateOpen => exact stimulusPins_open d i on ((going_iff _).2 goes)
  case gateShut => exact stimulusPins_shut d i (by rwa [going_iff])
  case vector =>
    intro w top
    refine ⟨_, exec_runStep_going (l := { lane s.toDevice i with
        vector := w.setWidth 8, position := (lane s.toDevice i).position + 1 }) going running noHold
      (codeRun_vector (d := sampledDevice i b (max s.now due) s.toDevice) inside (decodeCode_vector top) 64) going,
      ?_, fun j other => ?_⟩
    · exact stimulusPins_setLane_self (sampledDevice i b (max s.now due) s.toDevice) on going
    · exact stimulusPins_congr rfl (lane_setLane_ne _ other _)
  case pause =>
    exact ⟨{ s with toDevice := itemPause seq [] s.toDevice }, rfl,
      handleItem_allParked room (bodyPause_allParked s.toDevice inRun) 0x07 seq⟩
  case abort =>
    exact ⟨{ s with toDevice := itemAbort seq [] s.toDevice }, rfl,
      handleItem_allParked room (bodyAbort_allParked s.toDevice active) 0x09 seq⟩
  case restart =>
    exact ⟨{ s with toDevice := itemRestart seq [] s.toDevice }, rfl,
      handleItem_allParked (body := bodyRestart) room (warmRestart_allParked s.toDevice) 0x18 seq⟩

end Sys2Proof.Proofs
end


section
/-! The lanes across every step (R69, R72, R73, R84, R88, R100): the requests to them, a run of lane i's codes, the step
events, starts and resumes, and what the board, the job and the bench have them do. -/

namespace Sys2Proof.Machine

open Sys2Proof.Safety

/-! ### One lane and its capture lane -/

/-- A lane's numbers in their ranges (R73, R84). -/
def LaneRanges (l : Lane) : Prop :=
  l.position ≤ 32768 ∧ l.stack.length ≤ 2 ∧
    (∀ e ∈ l.stack, 1 ≤ e.remaining ∧ e.remaining ≤ 255 ∧ e.returnTo ≤ 32768) ∧ l.holdLeft ≤ 4094 ∧
    2 ≤ l.period ∧ l.period ≤ 65535

/-- A lane's resume state and fault kind, present by its state (R84). -/
def LaneMarks (l : Lane) : Prop :=
  (l.resume.isSome = true ↔ l.state = .held) ∧ (l.fault.isSome = true ↔ l.state = .faulted)

theorem laneInv_iff (l : Lane) : LaneInv l ↔ LaneRanges l ∧ LaneMarks l := by
  simp only [LaneInv, LaneRanges, LaneMarks, and_assoc]

/-- A lane as every step leaves it, beside its capture lane (R84, R88, R100). -/
def LaneWell (l : Lane) (c : Capture) : Prop :=
  LaneInv l ∧ timerAgrees l = true ∧ (c.window.isSome = true → l.state.reading = true)

theorem lanesInv_iff (d : Device) :
    LanesInv d ↔ ∀ i : LaneId, LaneWell (lane d i) (capture d i) ∧ d.job.starts[i] ≤ 32767 := by
  refine ⟨fun ⟨lanes, windows⟩ i => ?_, fun h => ⟨fun i => ?_, fun i => ?_⟩⟩
  · obtain ⟨inv, timer, start⟩ := lanes i
    exact ⟨⟨inv, timer, windows i⟩, start⟩
  · obtain ⟨⟨inv, timer, -⟩, start⟩ := h i
    exact ⟨inv, timer, start⟩
  · obtain ⟨⟨-, -, window⟩, -⟩ := h i
    exact window

/-- Lane i goes, with its elements in range; its timer may be stopped, as in the first run after a start. -/
def LaneRuns (l : Lane) : Prop := LaneInv l ∧ l.state.going = true

theorem reading_of_going {st : LaneState} (h : st.going = true) : st.reading = true := by
  revert h
  cases st <;> decide

theorem LaneMarks.of_going {l : Lane} (h : LaneMarks l) (going : l.state.going = true) :
    l.resume = none ∧ l.fault = none := by
  obtain ⟨resume, fault⟩ := h
  have notHeld : l.state ≠ .held := fun held => by simp [held, LaneState.going] at going
  have notFaulted : l.state ≠ .faulted := fun faulted => by simp [faulted, LaneState.going] at going
  exact ⟨by simpa [notHeld] using resume, by simpa [notFaulted] using fault⟩

/-- A going lane with its numbers changed, and its state, resume state and fault kind kept. -/
theorem LaneRuns.of_ranges {l m : Lane} (h : LaneRuns l) (ranges : LaneRanges m) (state : m.state = l.state := by rfl)
    (resume : m.resume = l.resume := by rfl) (fault : m.fault = l.fault := by rfl) : LaneRuns m := by
  obtain ⟨inv, going⟩ := h
  obtain ⟨-, marks⟩ := (laneInv_iff l).1 inv
  exact ⟨(laneInv_iff m).2 ⟨ranges, by rwa [LaneMarks, state, resume, fault]⟩, by rwa [state]⟩

/-- A going lane with its timer loaded is as a step leaves it (R88). -/
theorem LaneRuns.loaded {l : Lane} (h : LaneRuns l) (due : Nat) (c : Capture) :
    LaneWell { l with timer := .running due } c := by
  obtain ⟨inv, going⟩ := h
  exact ⟨inv, going, fun _ => reading_of_going going⟩

/-! ### Requests (R89, R91, R92) -/

/-- A lane that reads and is stopped, its window abandoned (R91). -/
theorem stoppedLane_well {l : Lane} (inv : LaneInv l) (reads : l.state.reading = true) (c : Capture) :
    LaneWell (stoppedLane l) { c with window := none } := by
  obtain ⟨⟨position, length, entries, -, least, most⟩, -, fault⟩ := (laneInv_iff l).1 inv
  have notFaulted : l.state ≠ .faulted := fun faulted => by simp [faulted, LaneState.reading] at reads
  refine ⟨(laneInv_iff _).2 ⟨⟨position, length, entries, Nat.zero_le _, least, most⟩, ?_, ?_⟩, rfl, by simp⟩
  · simp [stoppedLane]
  · simpa [stoppedLane, notFaulted] using fault

/-- A going lane held (R92). -/
theorem heldLane_well {l : Lane} (h : LaneRuns l) (now : Nat) (r : ResumeState) (c : Capture) :
    LaneWell (heldLane now r l) c := by
  obtain ⟨inv, going⟩ := h
  obtain ⟨ranges, marks⟩ := (laneInv_iff l).1 inv
  obtain ⟨-, fault⟩ := marks.of_going going
  exact ⟨(laneInv_iff _).2 ⟨ranges, by simp [LaneMarks, heldLane, fault]⟩, rfl, fun _ => rfl⟩

/-- A PLAYING lane asked to finish keeps its timer (R89). -/
theorem finishing_well {l : Lane} {c : Capture} (h : LaneWell l c) (playing : l.state = .playing) :
    LaneWell { l with state := .finishing } c := by
  obtain ⟨inv, timer, -⟩ := h
  obtain ⟨ranges, marks⟩ := (laneInv_iff l).1 inv
  obtain ⟨resume, fault⟩ := marks.of_going (by rw [playing]; rfl)
  refine ⟨(laneInv_iff _).2 ⟨ranges, by simp [LaneMarks, resume, fault]⟩, ?_, fun _ => rfl⟩
  revert timer
  unfold timerAgrees
  cases l.timer <;> simp [playing, LaneState.going, LaneState.ended]

/-- A HELD lane asked to finish resumes to FINISHING (R89). -/
theorem heldToFinish_well {l : Lane} {c : Capture} (h : LaneWell l c) (held : l.state = .held) :
    LaneWell { l with resume := some .finishing } c := by
  obtain ⟨inv, timer, window⟩ := h
  obtain ⟨ranges, -, fault⟩ := (laneInv_iff l).1 inv
  exact ⟨(laneInv_iff _).2 ⟨ranges, by simp [held], fault⟩, timer, window⟩

theorem afterRequest_of_stops {r : LaneRequest} {l : Lane} (h : requestStops r l.state = true) (now : Nat) :
    afterRequest r now l = stoppedLane l ∧ l.state.reading = true := by
  cases r <;> cases hs : l.state <;>
    simp [requestStops, hs, LaneState.reading, LaneState.going, afterRequest] at h ⊢

/-- A lane after a request, beside its capture lane, whose window a stop abandons. -/
theorem afterRequest_well {l : Lane} {c : Capture} (h : LaneWell l c) (r : LaneRequest) (now : Nat) :
    LaneWell (afterRequest r now l) (if requestStops r l.state = true then { c with window := none } else c) := by
  obtain ⟨inv, -, -⟩ := id h
  by_cases stops : requestStops r l.state = true
  · obtain ⟨stopped, reads⟩ := afterRequest_of_stops stops now
    rw [if_pos stops, stopped]
    exact stoppedLane_well inv reads c
  · rw [if_neg stops]
    cases r with
    | finish =>
      cases hs : l.state
      case playing => simpa [afterRequest, hs] using finishing_well h hs
      case held => simpa [afterRequest, hs] using heldToFinish_well h hs
      all_goals simpa [afterRequest, hs] using h
    | hold =>
      cases hs : l.state
      case playing => simpa [afterRequest, hs] using heldLane_well ⟨inv, by rw [hs]; rfl⟩ now .playing c
      case finishing => simpa [afterRequest, hs] using heldLane_well ⟨inv, by rw [hs]; rfl⟩ now .finishing c
      all_goals simpa [afterRequest, hs] using h
    | stop => cases hs : l.state <;> simp_all [afterRequest, requestStops, LaneState.reading]
    | powerLeft => cases hs : l.state <;> simp_all [afterRequest, requestStops, LaneState.going]

/-! ### A run of lane i's codes touches no other lane -/

/-- The other lanes, and their capture lanes, stand. -/
structure OnlyLane (i : LaneId) (d d' : Device) : Prop where
  lanes : ∀ j, j ≠ i → lane d' j = lane d j
  captures : ∀ j, j ≠ i → capture d' j = capture d j

namespace OnlyLane

variable {i : LaneId}

theorem trans {a b c : Device} (hab : OnlyLane i a b) (hbc : OnlyLane i b c) : OnlyLane i a c where
  lanes j hj := (hbc.lanes j hj).trans (hab.lanes j hj)
  captures j hj := (hbc.captures j hj).trans (hab.captures j hj)

theorem of_same {d d' : Device} (lanes : d'.lanes = d.lanes) (captures : d'.captures = d.captures) :
    OnlyLane i d d' where
  lanes j _ := by rw [lane, lanes]; rfl
  captures j _ := by rw [capture, captures]; rfl

theorem refl (d : Device) : OnlyLane i d d := of_same rfl rfl

theorem ite {c : Prop} [Decidable c] {d a b : Device} (ha : OnlyLane i d a) (hb : OnlyLane i d b) :
    OnlyLane i d (if c then a else b) := by
  split_ifs
  · exact ha
  · exact hb

end OnlyLane

section

variable (giving : Bool) (i : LaneId) (d : Device)

theorem setLane_onlyLane (l : Lane) : OnlyLane i d (setLane i l d) where
  lanes _ hj := lane_setLane_ne d hj l
  captures _ _ := rfl

theorem setCapture_onlyLane (c : Capture) : OnlyLane i d (setCapture i c d) where
  lanes _ _ := rfl
  captures _ hj := capture_setCapture_ne d hj c

theorem raiseCause_onlyLane (c : Cause) : OnlyLane i d (raiseCause c d) :=
  .of_same (raiseCause_lanes d c) (raiseCause_captures d c)

theorem takeEvent_onlyLane (l : Locus) (f : Frame) : OnlyLane i d (takeEvent l f d) :=
  .of_same (takeEvent_lanes d l f) (takeEvent_captures d l f)

theorem strobe_onlyLane (tag expected mask : Byte) : OnlyLane i d (strobe i tag expected mask d) := by
  obtain ⟨-, -, -, lanes, captures, -, -, -⟩ :=
    judgePins_frame d i tag (((capture d i).sample ^^^ expected) &&& mask) mask (List.finRange 8)
  exact .ite (.refl d) (.trans (.of_same lanes captures) (setCapture_onlyLane i _ _))

theorem openWindow_onlyLane (tag : Byte) : OnlyLane i d (openWindow i tag d) :=
  .ite (.trans (setCapture_onlyLane i d _) (raiseCause_onlyLane i _ _)) (setCapture_onlyLane i d _)

theorem closeWindow_onlyLane (tag : Byte) (w : Word) : OnlyLane i d (closeWindow i tag w d) := by
  have shut := setCapture_onlyLane i d { capture d i with window := none }
  refine .ite (shut.trans (raiseCause_onlyLane i _ _)) (.ite shut (.ite ?_ ?_))
  · exact shut.trans (.trans (setCapture_onlyLane i _ _) (.of_same rfl rfl))
  · exact shut.trans (.trans (setCapture_onlyLane i _ _) (takeEvent_onlyLane i _ _ _))

theorem advance_onlyLane (words : Nat) : OnlyLane i d (advance words i d) := setLane_onlyLane i d _

theorem codeFault_onlyLane (k : FaultKind) : OnlyLane i d (codeFault k i d) :=
  .trans (.trans (setCapture_onlyLane i d _) (setLane_onlyLane i _ _)) (raiseCause_onlyLane i _ _)

theorem streamStop_onlyLane : OnlyLane i d (streamStop i d) :=
  .trans (setCapture_onlyLane i d _) (setLane_onlyLane i _ _)

/-- A power cycle's power-off request finds the job awaiting OFF, so it makes no closing test (R164, R168). -/
theorem jobPowerOff_of_awaitingOff {d : Device} (h : d.job.state = .cycling ∧ d.job.phase = some .awaitingOff) :
    jobPowerOff d = setJob { d.job with phase := some .dwelling, dwell := some d.job.offDwell } d := if_pos h

theorem cyclePowerOff_enterCycling : (cyclePowerOff (enterCycling d)).lanes = d.lanes ∧
    (cyclePowerOff (enterCycling d)).captures = d.captures := by
  unfold cyclePowerOff
  dsimp only
  rw [jobPowerOff_of_awaitingOff ⟨rfl, rfl⟩]
  split_ifs <;> exact ⟨rfl, rfl⟩

/-- A CYCLE taken by the job touches no lane itself: what it asks of them is taken after the step event (R87, R164). -/
theorem jobCycle_lanes : (jobCycle giving d).1.lanes = d.lanes ∧ (jobCycle giving d).1.captures = d.captures := by
  have off := cyclePowerOff_enterCycling (countCycle d)
  unfold jobCycle
  dsimp only
  split_ifs <;> simp [off]

theorem codeEffect_onlyLane (c : Code) : OnlyLane i d (codeEffect giving i d c).device := by
  have past := fun words => advance_onlyLane i d words
  cases c with
  | stop => exact streamStop_onlyLane i d
  | vector v => exact setLane_onlyLane i d _
  | hold n => exact setLane_onlyLane i d _
  | loop n =>
    dsimp only [codeEffect, repeatCode]
    split_ifs
    · exact codeFault_onlyLane i d _
    · exact setLane_onlyLane i d _
  | again =>
    dsimp only [codeEffect, againCode]
    split
    · exact codeFault_onlyLane i d _
    · split_ifs <;> exact setLane_onlyLane i d _
  | strobe tag => exact (past 2).trans (strobe_onlyLane i _ _ _ _)
  | openWindow tag => exact (past 1).trans (openWindow_onlyLane i _ _)
  | closeWindow tag => exact (past 2).trans (closeWindow_onlyLane i _ _ _)
  | mark k =>
    dsimp only [codeEffect, markCode]
    split_ifs
    · obtain ⟨lanes, captures⟩ := jobCycle_lanes giving (advance 1 i d)
      exact (past 1).trans (.of_same lanes captures)
    · exact past 1
    · exact (past 1).trans (.trans (setLane_onlyLane i _ _) (raiseCause_onlyLane i _ _))
  | rate => exact .trans (setLane_onlyLane i d _) (advance_onlyLane i _ 2)
  | park v => exact .trans (setLane_onlyLane i d _) (advance_onlyLane i _ 1)
  | wrap =>
    dsimp only [codeEffect, wrapCode]
    split_ifs
    · exact streamStop_onlyLane i d
    · exact setLane_onlyLane i d _
  | undefinedCode => exact codeFault_onlyLane i d _

theorem oneCode_onlyLane : OnlyLane i d (oneCode giving i d).device := by
  by_cases cut : codeWords (codeAt i d) = 2 ∧ (lane d i).position = 32767
  · rw [oneCode_of_last cut.1 cut.2]
    exact codeFault_onlyLane i d _
  · rw [oneCode_of_fits fun two last => cut ⟨two, last⟩]
    exact codeEffect_onlyLane giving i d _

theorem lastCode_onlyLane : OnlyLane i d (lastCode i d) := by
  unfold lastCode
  split
  · exact setLane_onlyLane i d _
  · exact setLane_onlyLane i d _
  · exact codeFault_onlyLane i d _

theorem codeRun_onlyLane (room : Nat) : OnlyLane i d (codeRun giving i room d).1 := by
  induction room generalizing d with
  | zero => exact .ite (codeFault_onlyLane i d _) (lastCode_onlyLane i d)
  | succ room ih =>
    by_cases inside : (lane d i).position < 32768
    · have one := oneCode_onlyLane giving i d
      rw [codeRun_succ inside]
      rcases h : oneCode giving i d with d1 | ⟨d1, later⟩
      · rwa [h] at one
      · rw [h] at one
        exact one.trans (ih d1)
    · rw [codeRun_past _ (Nat.not_lt.1 inside)]
      exact codeFault_onlyLane i d _

end

/-! ### A run of lane i's codes keeps lane i -/

/-- Lane i as a run's code leaves it: going where the run goes on, and else going, or ended as a step leaves it. -/
def CodeResult.LaneKept (i : LaneId) : CodeResult → Prop
  | .over d => LaneRuns (lane d i) ∨ LaneWell (lane d i) (capture d i)
  | .next d _ => LaneRuns (lane d i)

section

variable {giving : Bool} {i : LaneId} {d : Device}

theorem codeFault_well (h : LaneRuns (lane d i)) (k : FaultKind) :
    LaneWell (lane (codeFault k i d) i) (capture (codeFault k i d) i) := by
  obtain ⟨inv, going⟩ := h
  obtain ⟨⟨position, length, entries, -, least, most⟩, marks⟩ := (laneInv_iff _).1 inv
  obtain ⟨resume, -⟩ := marks.of_going going
  rw [lane_codeFault]
  exact ⟨(laneInv_iff _).2 ⟨⟨position, length, entries, Nat.zero_le _, least, most⟩, by simp [LaneMarks, resume]⟩, rfl,
    by simp [codeFault, abandon]⟩

theorem streamStop_well (h : LaneRuns (lane d i)) :
    LaneWell (lane (streamStop i d) i) (capture (streamStop i d) i) := by
  obtain ⟨inv, going⟩ := h
  obtain ⟨⟨position, length, entries, -, least, most⟩, marks⟩ := (laneInv_iff _).1 inv
  obtain ⟨resume, fault⟩ := marks.of_going going
  rw [lane_streamStop]
  exact ⟨(laneInv_iff _).2 ⟨⟨position, length, entries, Nat.zero_le _, least, most⟩,
    by simp [LaneMarks, resume, fault]⟩, rfl, by simp [streamStop, abandon]⟩

theorem LaneRuns.ranges {l : Lane} (h : LaneRuns l) : LaneRanges l := ((laneInv_iff l).1 h.1).1

theorem driveVector_runs (h : LaneRuns (lane d i)) (inside : (lane d i).position < 32768) (v : Byte) :
    LaneRuns (lane (driveVector v i d) i) := by
  obtain ⟨-, rest⟩ := h.ranges
  rw [driveVector, lane_setLane_self]
  exact h.of_ranges ⟨inside, rest⟩

theorem driveHold_runs (h : LaneRuns (lane d i)) (inside : (lane d i).position < 32768) {n : Nat} (hn : n < 4096) :
    LaneRuns (lane (driveHold n i d) i) := by
  obtain ⟨-, length, entries, -, periods⟩ := h.ranges
  rw [driveHold, lane_setLane_self]
  exact h.of_ranges ⟨inside, length, entries, show n - 1 ≤ 4094 by omega, periods⟩

theorem advance_runs (h : LaneRuns (lane d i)) {words : Nat} (inside : (lane d i).position + words ≤ 32768) :
    LaneRuns (lane (advance words i d) i) := by
  obtain ⟨-, rest⟩ := h.ranges
  rw [advance, lane_setLane_self]
  exact h.of_ranges ⟨inside, rest⟩

theorem repeatCode_laneKept (h : LaneRuns (lane d i)) (inside : (lane d i).position < 32768) {n : Nat}
    (hn : n < 256) : (repeatCode n i d).LaneKept i := by
  obtain ⟨-, length, entries, rest⟩ := h.ranges
  by_cases bad : n = 0 ∨ 2 ≤ (lane d i).stack.length
  · rw [repeatCode_fault bad]
    exact .inr (codeFault_well h _)
  · rw [repeatCode_push (fun h0 => bad (.inl h0)) (by omega), CodeResult.LaneKept, lane_setLane_self]
    refine h.of_ranges ⟨inside, ?_, ?_, rest⟩
    · rw [List.length_cons]
      omega
    · exact List.forall_mem_cons.2 ⟨⟨by dsimp only; omega, by dsimp only; omega, inside⟩, entries⟩

theorem againCode_laneKept (h : LaneRuns (lane d i)) (inside : (lane d i).position < 32768) :
    (againCode i d).LaneKept i := by
  obtain ⟨-, length, entries, rest⟩ := h.ranges
  cases hs : (lane d i).stack with
  | nil =>
    rw [againCode_fault hs]
    exact .inr (codeFault_well h _)
  | cons e es =>
    rw [hs, List.length_cons] at length
    rw [hs] at entries
    obtain ⟨⟨least, most, back⟩, others⟩ := List.forall_mem_cons.1 entries
    rw [againCode_loop hs, CodeResult.LaneKept]
    split_ifs with more
    · rw [lane_setLane_self]
      refine h.of_ranges ⟨back, by rwa [List.length_cons], ?_, rest⟩
      exact List.forall_mem_cons.2 ⟨⟨by dsimp only; omega, by dsimp only; omega, back⟩, others⟩
    · rw [lane_setLane_self]
      exact h.of_ranges ⟨inside, by dsimp only; omega, others, rest⟩

theorem markCode_laneKept (h : LaneRuns (lane d i)) (k : Byte) : (markCode giving k i d).LaneKept i := by
  unfold markCode
  split_ifs
  · rw [CodeResult.LaneKept, lane, (jobCycle_lanes giving d).1]
    exact h
  · exact h
  · rw [CodeResult.LaneKept, lane_raiseCause, lane_setLane_self]
    exact h.of_ranges h.ranges

theorem wrapCode_laneKept (h : LaneRuns (lane d i)) (start : d.job.starts[i] ≤ 32767) : (wrapCode i d).LaneKept i := by
  obtain ⟨-, -, -, rest⟩ := h.ranges
  by_cases finishing : (lane d i).state = .finishing
  · rw [wrapCode_stop finishing]
    exact .inr (streamStop_well h)
  · rw [wrapCode_return finishing, CodeResult.LaneKept, lane_setLane_self]
    exact h.of_ranges ⟨Nat.le_succ_of_le start, Nat.zero_le _, nofun, rest⟩

/-- A code with all its words, at a place of memory, keeps lane i (R69 to R84). -/
theorem codeEffect_laneKept (h : LaneRuns (lane d i)) (inside : (lane d i).position < 32768)
    (start : d.job.starts[i] ≤ 32767) {c : Code} (fits : c.fits)
    (words : codeWords c = 2 → (lane d i).position ≠ 32767) : (codeEffect giving i d c).LaneKept i := by
  have past : LaneRuns (lane (advance 1 i d) i) := advance_runs h inside
  have pastTwo : codeWords c = 2 → LaneRuns (lane (advance 2 i d) i) := fun two =>
    advance_runs h (by have := words two; omega)
  cases c with
  | stop => exact .inr (streamStop_well h)
  | vector v => exact .inl (driveVector_runs h inside v)
  | hold n => exact .inl (driveHold_runs h inside fits)
  | loop n => exact repeatCode_laneKept h inside fits
  | again => exact againCode_laneKept h inside
  | strobe tag =>
    rw [codeEffect, CodeResult.LaneKept, lane, strobe_lanes]
    exact pastTwo rfl
  | openWindow tag =>
    rw [codeEffect, CodeResult.LaneKept, lane, openWindow_lanes]
    exact past
  | closeWindow tag =>
    rw [codeEffect, CodeResult.LaneKept, lane, closeWindow_lanes]
    exact pastTwo rfl
  | mark k => exact markCode_laneKept past k
  | rate =>
    obtain ⟨-, length, entries, held, -, -⟩ := h.ranges
    have second := (secondWord i d).isLt
    have last := words rfl
    rw [codeEffect, advance_setLane, CodeResult.LaneKept, lane_setLane_self]
    exact h.of_ranges ⟨by dsimp only; omega, length, entries, held, by dsimp only; omega, by dsimp only; omega⟩
  | park v =>
    obtain ⟨-, rest⟩ := h.ranges
    rw [codeEffect, advance_setLane, CodeResult.LaneKept, lane_setLane_self]
    exact h.of_ranges ⟨inside, rest⟩
  | wrap => exact wrapCode_laneKept h start
  | undefinedCode => exact .inr (codeFault_well h _)

theorem oneCode_laneKept (h : LaneRuns (lane d i)) (inside : (lane d i).position < 32768)
    (start : d.job.starts[i] ≤ 32767) : (oneCode giving i d).LaneKept i := by
  by_cases cut : codeWords (codeAt i d) = 2 ∧ (lane d i).position = 32767
  · rw [oneCode_of_last cut.1 cut.2]
    exact .inr (codeFault_well h _)
  · have words : codeWords (codeAt i d) = 2 → (lane d i).position ≠ 32767 := fun two last => cut ⟨two, last⟩
    rw [oneCode_of_fits words]
    exact codeEffect_laneKept h inside start (fits_decodeCode _) words

theorem lastCode_laneKept (h : LaneRuns (lane d i)) (inside : (lane d i).position < 32768) :
    (CodeResult.over (lastCode i d)).LaneKept i := by
  have fits := fits_decodeCode (patternRead d.pattern (lane d i).position)
  unfold lastCode
  split
  case h_1 => exact .inl (driveVector_runs h inside _)
  case h_2 step => exact .inl (driveHold_runs h inside (by rwa [step] at fits))
  case h_3 => exact .inr (codeFault_well h _)

/-- A code run keeps lane i (R68, R82). -/
theorem codeRun_laneKept (h : LaneRuns (lane d i)) (start : d.job.starts[i] ≤ 32767) (room : Nat) :
    (CodeResult.over (codeRun giving i room d).1).LaneKept i := by
  induction room generalizing d with
  | zero =>
    by_cases inside : (lane d i).position < 32768
    · rw [codeRun_last inside]
      exact lastCode_laneKept h inside
    · rw [codeRun_past _ (Nat.not_lt.1 inside)]
      exact .inr (codeFault_well h _)
  | succ room ih =>
    by_cases inside : (lane d i).position < 32768
    · have kept := oneCode_laneKept (giving := giving) h inside start
      have starts := (oneCode_keeps d giving i).starts
      rw [codeRun_succ inside]
      rcases hr : oneCode giving i d with d1 | ⟨d1, later⟩
      · rwa [hr] at kept
      · rw [hr] at kept starts
        exact ih kept (by rwa [show d1.job.starts = d.job.starts from starts])
    · rw [codeRun_past _ (Nat.not_lt.1 inside)]
      exact .inr (codeFault_well h _)

end

end Sys2Proof.Machine
end


section
/-! The lanes across every step, continued: the step events, starts and resumes of all lanes, and what the board, the
job and the bench have them do. -/

namespace Sys2Proof.Machine

open Sys2Proof.Safety

/-! ### One lane changed -/

/-- The lanes but lane i, beside their capture lanes, and the lane starts. -/
def OthersWell (i : LaneId) (d : Device) : Prop :=
  (∀ j, j ≠ i → LaneWell (lane d j) (capture d j)) ∧ ∀ j : LaneId, d.job.starts[j] ≤ 32767

section

variable {i : LaneId} {d d' : Device}

theorem lanesInv_iff_others (i : LaneId) (d : Device) :
    LanesInv d ↔ OthersWell i d ∧ LaneWell (lane d i) (capture d i) := by
  rw [lanesInv_iff]
  refine ⟨fun h => ⟨⟨fun j _ => (h j).1, fun j => (h j).2⟩, (h i).1⟩, fun ⟨⟨others, starts⟩, own⟩ j => ⟨?_, starts j⟩⟩
  by_cases same : j = i
  · rwa [same]
  · exact others j same

/-- Work on lane i alone leaves the lanes in range where it leaves lane i so. -/
theorem OthersWell.lanesInv (h : OthersWell i d) (only : OnlyLane i d d') (work : WorkKeeps d d')
    (well : LaneWell (lane d' i) (capture d' i)) : LanesInv d' := by
  obtain ⟨others, starts⟩ := h
  refine (lanesInv_iff_others i d').2 ⟨⟨fun j hj => ?_, fun j => ?_⟩, well⟩
  · rw [only.lanes j hj, only.captures j hj]
    exact others j hj
  · rw [work.starts]
    exact starts j

end

/-! ### Work that keeps the lanes in range -/

/-- Between two devices the lanes stay in range. -/
def LanesKept (d d' : Device) : Prop := LanesInv d → LanesInv d'

namespace LanesKept

theorem refl (d : Device) : LanesKept d d := id

theorem trans {a b c : Device} (hab : LanesKept a b) (hbc : LanesKept b c) : LanesKept a c := hbc ∘ hab

theorem ite {c : Prop} [Decidable c] {d a b : Device} (ha : LanesKept d a) (hb : LanesKept d b) :
    LanesKept d (if c then a else b) := by
  split_ifs
  · exact ha
  · exact hb

theorem foldl {α : Type} {f : Device → α → Device} (h : ∀ d a, LanesKept d (f d a)) (l : List α) (d : Device) :
    LanesKept d (l.foldl f d) := by
  induction l generalizing d with
  | nil => exact refl d
  | cons a l ih => exact (h d a).trans (ih _)

theorem of_same {d d' : Device} (lanes : d'.lanes = d.lanes := by rfl) (captures : d'.captures = d.captures := by rfl)
    (starts : d'.job.starts = d.job.starts := by rfl) : LanesKept d d' := by
  intro inv
  refine (lanesInv_iff d').2 fun i => ?_
  rw [show lane d' i = lane d i by rw [lane, lanes]; rfl, show capture d' i = capture d i by rw [capture, captures]; rfl,
    starts]
  exact (lanesInv_iff d).1 inv i

/-- Work of the blocks that leaves the lanes and the capture lanes. -/
theorem of_work {d d' : Device} (work : WorkKeeps d d') (lanes : d'.lanes = d.lanes)
    (captures : d'.captures = d.captures) : LanesKept d d' :=
  of_same lanes captures work.starts

end LanesKept

section

variable (d : Device)

theorem raiseCause_lanesKept (c : Cause) : LanesKept d (raiseCause c d) :=
  .of_work (raiseCause_keeps d c) (raiseCause_lanes d c) (raiseCause_captures d c)

theorem takeEvent_lanesKept (l : Locus) (f : Frame) : LanesKept d (takeEvent l f d) :=
  .of_work (takeEvent_keeps d l f) (takeEvent_lanes d l f) (takeEvent_captures d l f)

theorem requestDisturb_lanesKept (f : Frame) (src : Source) : LanesKept d (requestDisturb f src d) :=
  .of_work (requestDisturb_keeps d f src) (requestDisturb_lanes d f src) (requestDisturb_captures d f src)

theorem setPower_lanesKept (p : Power) : LanesKept d (setPower p d) := .of_same

theorem setEngine_lanesKept (g : Engine) : LanesKept d (setEngine g d) := .of_same

theorem atMoment_lanesKept (m : Nat) : LanesKept d (atMoment m d) := .of_same

theorem setJob_lanesKept (j : Job) (starts : j.starts = d.job.starts := by rfl) : LanesKept d (setJob j d) :=
  .of_same rfl rfl starts

theorem enterClosing_lanesKept (r : ClosingReason) : LanesKept d (enterClosing r d) :=
  .of_work (enterClosing_keeps d r) (enterClosing_lanes d r) (enterClosing_captures d r)

theorem leaveClosing_lanesKept : LanesKept d (leaveClosing d) :=
  .of_work (leaveClosing_keeps d) (leaveClosing_lanes d) (leaveClosing_captures d)

theorem clearTable_lanesKept : LanesKept d (clearTable d) := setEngine_lanesKept d _

/-! ### Requests and the closing test (R89, R91, R92, R172) -/

theorem giveLanes_lanesKept (r : LaneRequest) : LanesKept d (giveLanes r d) := by
  intro inv
  refine (lanesInv_iff _).2 fun i => ?_
  obtain ⟨well, start⟩ := (lanesInv_iff d).1 inv i
  rw [lane_giveLanes, capture_giveLanes, giveLanes_job]
  exact ⟨afterRequest_well well r d.now, start⟩

theorem requestOff_lanesKept : LanesKept d (requestOff d) :=
  .ite ((setPower_lanesKept d _).trans (giveLanes_lanesKept _ _)) (setPower_lanesKept d _)

theorem closingTest_lanesKept : LanesKept d (closingTest d) := by
  rcases closingTest_cases d with h | h | h | h <;> rw [h]
  · exact .refl d
  · exact requestOff_lanesKept d
  · exact leaveClosing_lanesKept d
  · exact (requestOff_lanesKept d).trans (leaveClosing_lanesKept _)

theorem giveLanesAndTest_lanesKept (r : LaneRequest) : LanesKept d (giveLanesAndTest r d) :=
  .ite ((giveLanes_lanesKept d r).trans (closingTest_lanesKept _)) (giveLanes_lanesKept d r)

theorem jobPowerOff_lanesKept : LanesKept d (jobPowerOff d) :=
  .ite (setJob_lanesKept d _) (closingTest_lanesKept d)

theorem givePowerOff_lanesKept : LanesKept d (givePowerOff d) :=
  .ite ((requestOff_lanesKept d).trans (jobPowerOff_lanesKept _)) (requestOff_lanesKept d)

theorem cyclePowerOff_lanesKept : LanesKept d (cyclePowerOff d) :=
  .ite ((setPower_lanesKept d _).trans (jobPowerOff_lanesKept _)) (setPower_lanesKept d _)

theorem fallDone_lanesKept : LanesKept d (fallDone d) := by
  have reached := (setPower_lanesKept d { d.power with state := .off }).trans (jobPowerOff_lanesKept _)
  exact .ite (reached.trans (setPower_lanesKept _ _)) reached

theorem dwellEnd_lanesKept : LanesKept d (dwellEnd d) :=
  .ite ((setJob_lanesKept d _).trans (setPower_lanesKept _ _)) (.refl d)

theorem dwellMark_lanesKept : LanesKept d (dwellMark d) := by
  unfold dwellMark
  split
  · exact .ite (dwellEnd_lanesKept d) (setJob_lanesKept d _)
  · exact .refl d

theorem jobTrip_lanesKept : LanesKept d (jobTrip d) := by
  have stop := giveLanes_lanesKept d .stop
  have close := fun r => stop.trans ((enterClosing_lanesKept _ r).trans (closingTest_lanesKept _))
  unfold jobTrip
  split
  · exact closingTest_lanesKept d
  iterate 4 exact .refl d
  all_goals exact .ite (close _) (.ite (stop.trans (setJob_lanesKept _ _)) (close _))

/-! ### Step events (R87, R88) -/

theorem takeDeferred_lanesKept (r : Deferred) : LanesKept d (takeDeferred d r) := by
  cases r with
  | request r => exact giveLanesAndTest_lanesKept d r
  | powerOff => exact cyclePowerOff_lanesKept d
  | report => exact closingTest_lanesKept d

theorem deliver_lanesKept (later : List Deferred) : LanesKept d (deliver later d) :=
  .foldl takeDeferred_lanesKept later d

variable {d} {i : LaneId}

theorem loadTimer_well (h : LaneRuns (lane d i)) :
    LaneWell (lane (loadTimer i d) i) (capture (loadTimer i d) i) := by
  rw [loadTimer, lane_setLane_self]
  exact h.loaded _ _

/-- A run that leaves lane i no longer going has ended it as a step leaves it. -/
theorem ranLane_well {giving : Bool} (h : LaneRuns (lane d i)) (start : d.job.starts[i] ≤ 32767) (room : Nat)
    (ended : (lane (codeRun giving i room d).1 i).state.going = false) :
    LaneWell (lane (codeRun giving i room d).1 i) (capture (codeRun giving i room d).1 i) := by
  rcases codeRun_laneKept (giving := giving) h start room with ⟨-, going⟩ | well
  · rw [ended] at going
    cases going
  · exact well

theorem goneOn_runs {giving : Bool} (h : LaneRuns (lane d i)) (start : d.job.starts[i] ≤ 32767) (room : Nat)
    (going : (lane (codeRun giving i room d).1 i).state.going = true) :
    LaneRuns (lane (codeRun giving i room d).1 i) := by
  rcases codeRun_laneKept (giving := giving) h start room with runs | ⟨inv, -, -⟩
  · exact runs
  · exact ⟨inv, going⟩

/-- A step event of a lane that goes, its timer run out or not yet loaded (R86, R87). -/
theorem stepCore_lanesInv (giving : Bool) (runs : LaneRuns (lane d i)) (others : OthersWell i d) :
    LanesInv (stepCore giving i d).1 := by
  have sample : OnlyLane i d (takeSample i d) := setCapture_onlyLane i d _
  have sampleWork := takeSample_keeps d i
  have runsSampled : LaneRuns (lane (takeSample i d) i) := runs
  have start : (takeSample i d).job.starts[i] ≤ 32767 := others.2 i
  have ran := sample.trans (codeRun_onlyLane giving i (takeSample i d) Config.runLimit)
  have ranWork := sampleWork.trans (codeRun_keeps (takeSample i d) giving i Config.runLimit)
  unfold stepCore
  dsimp only
  split_ifs with held going given
  · obtain ⟨position, length, entries, left, periods⟩ := runs.ranges
    refine others.lanesInv (sample.trans ((setLane_onlyLane i _ _).trans (setLane_onlyLane i _ _)))
      (sampleWork.trans ((setLane_keeps _ i _).trans (loadTimer_keeps _ i))) (loadTimer_well ?_)
    rw [lane_setLane_self]
    exact runsSampled.of_ranges ⟨position, length, entries, Nat.le_trans (Nat.sub_le _ 1) left, periods⟩
  · exact others.lanesInv (ran.trans (setLane_onlyLane i _ _)) (ranWork.trans (loadTimer_keeps _ i))
      (loadTimer_well (goneOn_runs runsSampled start _ going))
  · exact others.lanesInv ran ranWork (ranLane_well runsSampled start _ (by simpa using going))
  · exact closingTest_lanesKept _
      (others.lanesInv ran ranWork (ranLane_well runsSampled start _ (by simpa using going)))

/-- A step event of a lane that goes, with the lanes in range. -/
theorem stepCore_lanesKept (going : (lane d i).state.going = true) (giving : Bool) :
    LanesKept d (stepCore giving i d).1 := fun inv => by
  obtain ⟨others, own, -, -⟩ := (lanesInv_iff_others i d).1 inv
  exact stepCore_lanesInv giving ⟨own, going⟩ others

variable (d i)

theorem stepExpiry_lanesKept : LanesKept d (stepExpiry i d) := by
  unfold stepExpiry
  split
  case h_1 due _ =>
    have step := fun going => (atMoment_lanesKept d due).trans (stepCore_lanesKept (i := i) going false)
    split_ifs with going
    · exact (step going).trans (deliver_lanesKept _ _)
    · exact .refl d
  · exact .refl d
  · exact .refl d

/-! ### Starts and resumes (R86, R93, R163) -/

/-- A start's lane, before its first step event. -/
theorem freshLane_ranges {start : Nat} (h : start ≤ 32767) (st : LaneState) (l : Lane) :
    LaneRanges (freshLane start st l) :=
  ⟨Nat.le_succ_of_le h, Nat.zero_le _, nofun, Nat.zero_le _, show 2 ≤ 100 by decide, show 100 ≤ 65535 by decide⟩

theorem startLane_lanesKept : LanesKept d (startLane i d).1 := by
  intro inv
  obtain ⟨others, -⟩ := (lanesInv_iff_others i d).1 inv
  have ranges := fun st => freshLane_ranges (others.2 i) st (lane d i)
  have gone : OnlyLane i d (abandon i d) := setCapture_onlyLane i d _
  have fresh := fun st => gone.trans (setLane_onlyLane i _ (freshLane d.job.starts[i] st (lane d i)))
  unfold startLane
  dsimp only
  split_ifs
  · refine stepCore_lanesInv true ?_ ⟨fun j hj => ?_, others.2⟩
    · rw [lane_setLane_self]
      exact ⟨(laneInv_iff _).2 ⟨ranges .playing, by simp [LaneMarks, freshLane]⟩, rfl⟩
    · rw [(fresh .playing).lanes j hj, (fresh .playing).captures j hj]
      exact others.1 j hj
  · refine others.lanesInv (fresh .stopped) ((abandon_keeps d i).trans (setLane_keeps _ i _)) ?_
    rw [lane_setLane_self]
    exact ⟨(laneInv_iff _).2 ⟨ranges .stopped, by simp [LaneMarks, freshLane]⟩, rfl, by simp [abandon]⟩

theorem startLanes_lanesKept (is : List LaneId) : LanesKept d (startLanes is d).1 := by
  induction is generalizing d with
  | nil => exact .refl d
  | cons i is ih => exact (startLane_lanesKept d i).trans (ih _)

theorem jobPowerOn_lanesKept : LanesKept d (jobPowerOn d) :=
  .ite ((setJob_lanesKept d _).trans ((startLanes_lanesKept _ _).trans (deliver_lanesKept _ _)))
    (.refl d)

/-- A HELD lane resumed with power ON (R93). -/
theorem resumedLane_well {l : Lane} {c : Capture} (h : LaneWell l c) (held : l.state = .held) (due : Nat) :
    LaneWell { l with state := resumeTo l.resume, resume := none, timer := .running due } c := by
  obtain ⟨inv, -, -⟩ := h
  obtain ⟨ranges, -, fault⟩ := (laneInv_iff l).1 inv
  have goes : (resumeTo l.resume).going = true := by
    unfold resumeTo
    split <;> rfl
  refine ⟨(laneInv_iff _).2 ⟨ranges, ?_, ?_⟩, goes, fun _ => reading_of_going goes⟩
  · exact iff_of_false nofun fun back => by simp [show resumeTo l.resume = .held from back, LaneState.going] at goes
  · refine iff_of_false (fun some => ?_) fun back => by
      simp [show resumeTo l.resume = .faulted from back, LaneState.going] at goes
    exact absurd (fault.1 some) (by simp [held])

theorem resumeLane_lanesKept : LanesKept d (resumeLane d i) := by
  intro inv
  obtain ⟨others, well⟩ := (lanesInv_iff_others i d).1 inv
  unfold resumeLane
  dsimp only
  split_ifs with held on
  · refine others.lanesInv (setLane_onlyLane i d _) (setLane_keeps d i _) ?_
    rw [lane_setLane_self]
    exact resumedLane_well well held _
  · refine others.lanesInv ((setCapture_onlyLane i d _).trans (setLane_onlyLane i _ _))
      ((abandon_keeps d i).trans (setLane_keeps _ i _)) ?_
    rw [lane_setLane_self]
    have stopped := stoppedLane_well well.1 (by rw [held]; rfl) (capture d i)
    simpa [abandon] using stopped
  · exact inv

theorem resumeSteps_lanesKept (is : List LaneId) : LanesKept d (resumeSteps is d).1 := by
  induction is generalizing d with
  | nil => exact .refl d
  | cons i is ih =>
    have step : LanesKept d (if (lane d i).state.going then stepCore false i d else (d, [])).1 := by
      split_ifs with going
      · exact stepCore_lanesKept going false
      · exact .refl d
    exact step.trans (ih _)

theorem giveResume_lanesKept : LanesKept d (giveResume d) := by
  have taken : LanesKept d (allLanes.foldl resumeLane d) := .foldl resumeLane_lanesKept _ d
  unfold giveResume
  refine .trans (.trans ?_ (resumeSteps_lanesKept _ _)) (deliver_lanesKept _ _)
  exact .ite (taken.trans (closingTest_lanesKept _)) taken

/-! ### Samples and the board (R51 to R57) -/

theorem fullScaleCause_lanesKept (was : Bool) (v : Nat) : LanesKept d (fullScaleCause was v d) :=
  .ite (raiseCause_lanesKept d _) (.refl d)

theorem tripWith_lanesKept (c : Cause) (r : RailId) (disturb : Bool) : LanesKept d (tripWith c r disturb d) := by
  have event : LanesKept d (takeEvent (.trip r) d.link.frame (raiseCause c (setPower (tripped d.power) d))) :=
    (setPower_lanesKept d _).trans ((raiseCause_lanesKept _ _).trans (takeEvent_lanesKept _ _ _))
  have request := LanesKept.ite (c := disturb = true)
    (event.trans (requestDisturb_lanesKept _ d.link.frame .rail)) event
  have left := LanesKept.ite (c := d.power.state = .on) (request.trans (giveLanes_lanesKept _ .powerLeft)) request
  exact left.trans (jobTrip_lanesKept _)

theorem railGlitch_lanesKept (r : RailId) (f : Frame) : LanesKept d (railGlitch r f d) :=
  (raiseCause_lanesKept d _).trans ((takeEvent_lanesKept _ _ _).trans
    ((requestDisturb_lanesKept _ _ _).trans (setPower_lanesKept _ _)))

theorem superviseCurrent_lanesKept (v : Nat) : LanesKept d (superviseCurrent v d) :=
  .ite (.ite (.ite (tripWith_lanesKept d _ _ _) (setPower_lanesKept d _)) (setPower_lanesKept d _)) (.refl d)

theorem superviseRail_lanesKept (r : RailId) : LanesKept d (superviseRail r d) := by
  have outside : LanesKept d (outsideSample r d) := setPower_lanesKept d _
  exact .ite (.ite (.refl d) (railGlitch_lanesKept d _ _)) (.ite (outside.trans (tripWith_lanesKept _ _ _ _)) outside)

theorem sampleRail_lanesKept (r : RailId) (v : Nat) : LanesKept d (sampleRail r v d) := by
  have stored := fun p => (setPower_lanesKept d p).trans (fullScaleCause_lanesKept _ d.power.rails[r].fullScale v)
  unfold sampleRail
  dsimp only
  split
  · exact (stored _).trans (superviseRail_lanesKept _ _)
  · exact .ite ((stored _).trans (fallDone_lanesKept _)) (stored _)
  all_goals exact stored _

theorem sampleChannel_lanesKept (c : Channel) (v : Nat) : LanesKept d (sampleChannel c v d) := by
  cases c with
  | rail r => exact sampleRail_lanesKept d r v
  | current =>
    exact (setPower_lanesKept d _).trans
      ((fullScaleCause_lanesKept _ _ _).trans (superviseCurrent_lanesKept _ _))

/-! ### The blocks at a mark -/

theorem readTemperature_lanesKept (t : TempReading) : LanesKept d (readTemperature t d) := by
  cases t with
  | sensorOpen => exact raiseCause_lanesKept d _
  | halfDegrees t =>
    exact .ite (setPower_lanesKept d _) ((setPower_lanesKept d _).trans (raiseCause_lanesKept _ _))

theorem opportunity_lanesKept (l : Locus) : LanesKept d (opportunity l d) := setEngine_lanesKept d _

theorem riseEndTest_lanesKept : LanesKept d (riseEndTest d) := by
  unfold riseEndTest
  split
  · have credited : LanesKept (setPower (risen d.power) d) (tripOpportunities (setPower (risen d.power) d)) :=
      .foldl (fun x _ => opportunity_lanesKept x _) _ _
    exact (setPower_lanesKept d _).trans (credited.trans (jobPowerOn_lanesKept _))
  · exact (setPower_lanesKept d _).trans (tripWith_lanesKept _ _ _ _)

theorem powerMark_lanesKept : LanesKept d (powerMark d) := by
  have credited : LanesKept d (glitchOpportunities d.power d) :=
    .foldl (fun x _ => .ite (.refl x) (opportunity_lanesKept x _)) _ d
  unfold powerMark
  split
  · exact credited.trans (setPower_lanesKept _ _)
  · exact .ite (riseEndTest_lanesKept d) (setPower_lanesKept d _)
  · exact .ite ((setPower_lanesKept d _).trans (fallDone_lanesKept _)) (setPower_lanesKept d _)
  all_goals exact setPower_lanesKept d _

theorem monitorMark_lanesKept (v : MarkView) : LanesKept d (monitorMark v d) :=
  (readTemperature_lanesKept d _).trans (powerMark_lanesKept _)

theorem settle_lanesKept (e : Entry) : LanesKept d (settle e d) :=
  .of_work (settle_keeps d e) (settle_lanes d e) (settle_captures d e)

theorem settleMark_lanesKept : LanesKept d (settleMark d) := by
  have settled : LanesKept d (settleDue d) :=
    (setEngine_lanesKept d _).trans (.foldl settle_lanesKept _ _)
  exact .ite (settled.trans (closingTest_lanesKept _)) settled

theorem settleAndMonitor_lanesKept (v : MarkView) : LanesKept d (settleAndMonitor v d) :=
  .ite ((settleMark_lanesKept d).trans (monitorMark_lanesKept _ v))
    ((monitorMark_lanesKept d v).trans (settleMark_lanesKept _))

theorem offerAll_lanesKept : LanesKept d (offerAll d) :=
  .of_work (offerAll_keeps d) (offer_lanes d _) (offer_captures d _)

theorem handleMark_lanesKept (view : MarkView) : LanesKept d (handleMark view d) := by
  have viewed : LanesKept d (peerMark d) := by
    rw [peerMark_eq]
    exact .of_same
  have begun : LanesKept d (tallyShift (dwellMark (peerMark d))) :=
    viewed.trans ((dwellMark_lanesKept _).trans (setEngine_lanesKept _ _))
  unfold handleMark
  dsimp only
  split_ifs
  · exact begun.trans ((offerAll_lanesKept _).trans (settleAndMonitor_lanesKept _ view))
  · exact begun.trans ((settleAndMonitor_lanesKept _ view).trans (offerAll_lanesKept _))

/-! ### Command items (R67, R158 to R171, R192) -/

theorem bodyLoad_lanesKept (args : List Byte) : LanesKept d (bodyLoad args d).1 := by
  unfold bodyLoad
  dsimp only
  split_ifs <;> exact .of_same

/-- JOB-LANES takes lane starts of at most 32,767 (R158). -/
theorem bodyJobLanes_lanesKept (args : List Byte) : LanesKept d (bodyJobLanes args d).1 := by
  intro inv
  have low : ¬(allLanes.any fun i => decide (32767 < (lanesArgs args).starts[i])) = true →
      ∀ i : LaneId, (lanesArgs args).starts[i] ≤ 32767 := fun high => by simpa [allLanes] using high
  unfold bodyJobLanes
  dsimp only
  split_ifs with active mask high
  iterate 3 exact inv
  all_goals exact (lanesInv_iff _).2 fun i => ⟨((lanesInv_iff d).1 inv i).1, low high i⟩

theorem acceptSettings_lanesKept (n : NamedSettings) : LanesKept d (acceptSettings n d) :=
  .ite (setJob_lanesKept d _) (.of_work (inForce_keeps d n) (inForce_lanes d n) (inForce_captures d n))

theorem clearEverFailed_lanesKept : LanesKept d (clearEverFailed d) := by
  intro inv
  refine (lanesInv_iff _).2 fun i => ?_
  have window : (capture (clearEverFailed d) i).window = (capture d i).window := by simp [capture, clearEverFailed]
  obtain ⟨⟨own, timer, reads⟩, start⟩ := (lanesInv_iff d).1 inv i
  exact ⟨⟨own, timer, by rw [window]; exact reads⟩, start⟩

theorem startJob_lanesKept (keep : Bool) : LanesKept d (startJob keep d) := by
  have begun : LanesKept d (clearEverFailed (setJob (startedJob d.job) d)) :=
    (setJob_lanesKept d (startedJob d.job)).trans (clearEverFailed_lanesKept _)
  have cleared := LanesKept.ite (c := keep = true) begun (begun.trans (clearTable_lanesKept _))
  have powered : LanesKept d (givePower (if keep then clearEverFailed (setJob (startedJob d.job) d)
      else clearTable (clearEverFailed (setJob (startedJob d.job) d)))) := cleared.trans (setPower_lanesKept _ _)
  exact .ite (powered.trans (jobPowerOn_lanesKept _)) powered

theorem bodyPause_lanesKept : LanesKept d (bodyPause d).1 := by
  unfold bodyPause
  split_ifs
  · exact (setJob_lanesKept d _).trans (giveLanesAndTest_lanesKept _ _)
  · exact .refl d

theorem bodyResume_lanesKept : LanesKept d (bodyResume d).1 := by
  unfold bodyResume
  split_ifs
  · exact (enterClosing_lanesKept d _).trans ((giveResume_lanesKept _).trans (closingTest_lanesKept _))
  · exact (setJob_lanesKept d _).trans (giveResume_lanesKept _)
  · exact .refl d

theorem abortJob_lanesKept : LanesKept d (abortJob d) := by
  unfold abortJob
  refine .trans (.trans (.trans ?_ (giveLanes_lanesKept _ _)) (requestOff_lanesKept _)) (closingTest_lanesKept _)
  exact .ite (setJob_lanesKept d _) (enterClosing_lanesKept d _)

/-- A warm restart leaves every lane IDLE, and no window open (R84, R100). -/
theorem warmRestart_lanesKept : LanesKept d (warmRestart d) := by
  intro inv
  refine (lanesInv_iff _).2 fun i => ?_
  obtain ⟨⟨own, -, -⟩, start⟩ := (lanesInv_iff d).1 inv i
  obtain ⟨⟨position, length, entries, -, periods⟩, -⟩ := (laneInv_iff _).1 own
  have restarted : lane (warmRestart d) i = (lane d i).restarted := by simp [warmRestart, lane]
  have shut : (capture (warmRestart d) i).window = none := by simp [warmRestart, capture, Capture.restarted]
  refine ⟨?_, start⟩
  rw [restarted]
  exact ⟨(laneInv_iff _).2 ⟨⟨position, length, entries, Nat.zero_le _, periods⟩, by simp [LaneMarks, Lane.restarted]⟩,
    rfl, by simp [shut]⟩

end

theorem cold_lanesInv (bay : BitVec 4) (budget : BitVec 2) : LanesInv (Device.cold bay budget) := by
  have well : LaneWell Lane.cold Capture.cold := by
    unfold LaneWell
    decide
  have starts : ∀ i : LaneId, Job.cold.starts[i] ≤ 32767 := by decide
  refine (lanesInv_iff _).2 fun i => ⟨?_, starts i⟩
  rwa [show lane (Device.cold bay budget) i = Lane.cold by simp [lane, Device.cold],
    show capture (Device.cold bay budget) i = Capture.cold by simp [capture, Device.cold]]

theorem lanesInv_kept : KeptByParts LanesInv where
  same h := LanesKept.of_same h.lanes h.captures (by rw [h.job])
  cold := cold_lanesInv
  sample c v d := sampleChannel_lanesKept d c v
  stepExpiry i d := stepExpiry_lanesKept d i
  dwellEnd := dwellEnd_lanesKept
  mark view d := handleMark_lanesKept d view
  load args d := bodyLoad_lanesKept d args
  jobLanes args d := bodyJobLanes_lanesKept d args
  settings n d := acceptSettings_lanesKept d n
  start keep d := startJob_lanesKept d keep
  pause := bodyPause_lanesKept
  resume := bodyResume_lanesKept
  abort := abortJob_lanesKept
  power _ := LanesKept.of_same
  powerOff := givePowerOff_lanesKept
  clearTable := clearTable_lanesKept
  pin _ _ _ := LanesKept.of_same
  restart := warmRestart_lanesKept

end Sys2Proof.Machine

namespace Sys2Proof.Proofs

open Sys2Proof.Machine Sys2Proof.Safety

/-- Settles O55: the codes and the step events keep the lane they run on, requests, starts and resumes each lane they
reach, and everything else leaves the lanes. -/
theorem stepKeepsLanesInRange : Obligations.StepKeepsLanesInRange :=
  fun _ _ inv next => step_kept lanesInv_kept inv next

end Sys2Proof.Proofs
end


section
/-! PAUSE (R92, R166): the hold request to the four lanes, and the job that makes it. -/

namespace Sys2Proof.Machine

open Sys2Proof.Safety

variable (d : Device)

/-- A hold stops no lane, so that it abandons no window (R91, R92). -/
theorem takeRequest_hold (i : LaneId) : takeRequest .hold i d =
    { d with lanes := d.lanes.set i (afterRequest .hold d.now (lane d i)) } := takeRequest_eq d .hold i

theorem giveLanes_hold : giveLanes .hold d = { d with lanes := (giveLanes .hold d).lanes } := by
  simp only [giveLanes_eq, takeRequest_hold]

/-- Outside CLOSING the lanes' reports bring no closing test (R172). -/
theorem giveLanesAndTest_of_state_ne (r : LaneRequest) (h : d.job.state ≠ .closing) :
    giveLanesAndTest r d = giveLanes r d := by
  have noTest : closingTest (giveLanes r d) = giveLanes r d :=
    closingTest_of_state_ne _ (by rwa [giveLanes_job])
  unfold giveLanesAndTest
  dsimp only
  rw [noTest, ite_self]

/-- The block with its job PAUSED and a hold given to its lanes (R166). -/
def pausedDevice : Device := giveLanes .hold (setJob { d.job with state := .paused } d)

theorem pausedDevice_eq : pausedDevice d =
    { d with job := { d.job with state := .paused }, lanes := (pausedDevice d).lanes } :=
  giveLanes_hold (setJob { d.job with state := .paused } d)

theorem lane_pausedDevice (i : LaneId) : lane (pausedDevice d) i = afterRequest .hold d.now (lane d i) :=
  lane_giveLanes (setJob { d.job with state := .paused } d) .hold i

theorem bodyPause_of_running (running : d.job.state = .running) :
    bodyPause d = (pausedDevice d, { reason := .accepted }) := by
  rw [bodyPause, if_pos running,
    giveLanesAndTest_of_state_ne (setJob { d.job with state := .paused } d) .hold JobState.noConfusion, pausedDevice]

theorem bodyPause_of_state_ne (h : d.job.state ≠ .running) : bodyPause d = (d, { reason := .state }) := if_neg h

/-- With room, a PAUSE is executed and its answer queued (R181). -/
theorem exec_pause (s : State) (seq : Byte) (room : hasRoom s) : exec (.pause seq []) s =
    .next { s with toDevice := offerReply 0x07 seq (bodyPause s.toDevice).2 (bodyPause s.toDevice).1 } := by
  change Host.Outcome.next { s with toDevice := handleItem 0x07 seq true bodyPause s.toDevice } = _
  rw [handleItem_executed _ _ _ _ room]

end Sys2Proof.Machine

namespace Sys2Proof.Proofs

open Sys2Proof.Machine Sys2Proof.Safety

/-- Settles O33: the job is PAUSED, which is not CLOSING, so that of a PAUSE the hold alone reaches the lanes. -/
theorem pauseHoldsTheLanes : Obligations.PauseHoldsTheLanes := by
  refine fun s seq room => ⟨fun running => ?paused, fun other => ?refused⟩
  case paused =>
    have run : exec (.pause seq []) s =
        .next (answeredBare { s with toDevice := pausedDevice s.toDevice } 0x07 seq .accepted) := by
      rw [exec_pause s seq room, bodyPause_of_running _ running]
      exact congrArg Host.Outcome.next (offerReply_answered
        { s with toDevice := pausedDevice s.toDevice } 0x07 seq { reason := .accepted })
    refine ⟨_, run, ?_, fun i => ?_⟩
    · exact congrArg (fun x => answeredBare { s with toDevice := x } 0x07 seq .accepted) (pausedDevice_eq s.toDevice)
    · refine (lane_pausedDevice s.toDevice i).trans ?_
      obtain ⟨state⟩ := lane s.toDevice i
      cases state <;> rfl
  case refused =>
    rw [exec_pause s seq room, bodyPause_of_state_ne _ other]
    exact congrArg Host.Outcome.next (offerReply_answered s 0x07 seq { reason := .state })

end Sys2Proof.Proofs
end


section
/-! The step over the queue of waiting commands: every row of the table changes the block alone. -/

namespace Sys2Proof.Machine

/-- Every command is taken in every state, and its whole effect is a change of the block. -/
theorem exec_changes_block (c : Instr) (s : State) : ∃ d : Device, exec c s = .next { s with toDevice := d } := by
  cases c <;> exact ⟨_, rfl⟩

theorem step_of_empty {s : State} (empty : s.pending = []) : step s = .next s.idle := by
  unfold step
  rw [empty]

end Sys2Proof.Machine

namespace Sys2Proof.Proofs

open Sys2Proof.Machine

/-- Settles O1: the step takes the front of the queue, and no row of the table touches what waits behind it. -/
theorem stepRunsFrontCommand : Obligations.StepRunsFrontCommand := by
  refine ⟨fun c rest s => ?front, fun s empty => ?idle, fun c s => ?taken⟩
  case front => rfl
  case idle => exact step_of_empty empty
  case taken =>
    obtain ⟨d, run⟩ := exec_changes_block c s
    exact ⟨_, run, rfl⟩

end Sys2Proof.Proofs
end


section
/-! Strobes and CLOSEs (R102 to R105, R107, R108): what the judged pins hand to the attribution engine, and the
comparison of a window's signature. -/

namespace Sys2Proof.Machine

open Sys2Proof.Safety

variable (d : Device)

/-! ### An event neither reads nor changes the capture lanes -/

section
variable (i : LaneId) (c : Capture)

theorem raiseCause_setCapture (x : Cause) : raiseCause x (setCapture i c d) = setCapture i c (raiseCause x d) := by
  unfold raiseCause offer
  dsimp only [setCapture]
  split_ifs <;> rfl

theorem settleNew_setCapture (e : Entry) (n : Nat) :
    settleNew e n (setCapture i c d) = setCapture i c (settleNew e n d) := by
  unfold settleNew
  dsimp only
  rw [apply_ite (setCapture i c), ← raiseCause_setCapture]
  rfl

theorem settle_setCapture (e : Entry) : settle e (setCapture i c d) = setCapture i c (settle e d) := by
  have count : coincidence (setCapture i c d) e.stamp = coincidence d e.stamp := rfl
  unfold settle
  rw [count, setCapture_engine]
  dsimp only
  split_ifs
  · rw [rackEvent_eq, rackEvent_eq, ← raiseCause_setCapture]
    rfl
  · unfold settleFound
    dsimp only
    rw [apply_ite (setCapture i c), ← raiseCause_setCapture]
    rfl
  · exact settleNew_setCapture d i c e _
  · cases evictionChoice d.engine.table with
    | some r => exact settleNew_setCapture (evict r d) i c e _
    | none =>
      dsimp only [dropEntry]
      rw [← raiseCause_setCapture]
      rfl

theorem earlySettle_setCapture : earlySettle (setCapture i c d) = setCapture i c (earlySettle d) := by
  cases h : d.engine.queue with
  | nil => rw [earlySettle_nil d h, earlySettle_nil (setCapture i c d) h]
  | cons e rest =>
    have settled : settle e (setQueue rest (setCapture i c d)) = setCapture i c (settle e (setQueue rest d)) :=
      settle_setCapture (setQueue rest d) i c e
    rw [earlySettle_cons d h, earlySettle_cons (setCapture i c d) h, settled]
    dsimp only
    rw [raiseCause_setCapture]
    rfl

theorem queueEvent_setCapture (l : Locus) (f : Frame) :
    queueEvent l f (setCapture i c d) = setCapture i c (queueEvent l f d) := by
  unfold queueEvent
  rw [setCapture_engine, earlySettle_setCapture]
  split_ifs <;> rfl

theorem requestDisturb_setCapture (f : Frame) (src : Source) :
    requestDisturb f src (setCapture i c d) = setCapture i c (requestDisturb f src d) := by
  unfold requestDisturb
  rw [setCapture_link]
  split_ifs <;> rfl

theorem tallyEvent_setCapture (l : Locus) (f : Frame) :
    tallyEvent l f (setCapture i c d) = setCapture i c (tallyEvent l f d) := by
  unfold tallyEvent
  rw [setCapture_engine, setCapture_link]
  dsimp only
  split_ifs
  · rw [← requestDisturb_setCapture]
    rfl
  · rfl
  · rw [← requestDisturb_setCapture]
    rfl
  · rfl
  · rfl

theorem takeEvent_setCapture (l : Locus) (f : Frame) :
    takeEvent l f (setCapture i c d) = setCapture i c (takeEvent l f d) := by
  rw [takeEvent_eq, takeEvent_eq, queueEvent_setCapture, tallyEvent_setCapture]

end

/-! ### An opportunity (R126, R129) -/

/-- A credit halves the counters where the opportunities stand at their limit (R126, R129). -/
theorem creditRecord_eq_credited (r : SuspectRecord) : creditRecord r = credited r := by
  have full : Config.counterLimit < r.opportunities + 1 ↔ 65535 ≤ r.opportunities := Nat.lt_succ_iff
  unfold creditRecord halveFor credited
  simp only [full]
  split_ifs <;> rfl

theorem mapRecord_creditRecord (l : Locus) (table : List SuspectRecord) : mapRecord l creditRecord table =
    table.map fun r => if r.locus = l then credited r else r := by
  rw [mapRecord, funext creditRecord_eq_credited]

/-! ### An event in a queue with room (R116, R118) -/

section
variable {d} (room : d.engine.queue.length < 32) (l : Locus) (f : Frame)
include room

theorem queueEvent_of_room : queueEvent l f d =
    if d.engine.queue.any (matchesEntry l f) then setQueue (mergeEntry l f d.engine.queue) d else enqueue l f d := by
  rw [queueEvent, if_neg (show ¬Config.queueLimit ≤ d.engine.queue.length from Nat.not_le.2 room)]

theorem takeEvent_table_of_room : (takeEvent l f d).engine.table = d.engine.table := by
  rw [takeEvent_eq, tallyEvent_eq, queueEvent_of_room room]
  split_ifs <;> rfl

theorem takeEvent_queue_of_room : (takeEvent l f d).engine.queue =
    if d.engine.queue.any (matchesEntry l f) then mergeEntry l f d.engine.queue
    else insertEntry ⟨l, f, 1, d.power.band, snapshotFor l d.engine⟩ d.engine.queue := by
  rw [takeEvent_eq, tallyEvent_eq, queueEvent_of_room room]
  split_ifs <;> rfl

end

/-- A new entry is the only one that a queue gains. -/
theorem insertEntry_perm (e : Entry) (q : List Entry) : (insertEntry e q).Perm (e :: q) := by
  induction q with
  | nil => exact .refl _
  | cons x q ih =>
    unfold insertEntry
    split_ifs
    · exact .refl _
    · exact (ih.cons x).trans (.swap e x q)

theorem length_takeEvent_queue {d : Device} (room : d.engine.queue.length < 32) (l : Locus) (f : Frame) :
    (takeEvent l f d).engine.queue.length ≤ d.engine.queue.length + 1 := by
  rw [takeEvent_queue_of_room room]
  split_ifs
  · simp [mergeEntry]
  · exact (insertEntry_perm _ _).length_eq.le

/-- An event of a queue with room settles no entry: what was queued still is. -/
theorem queued_takeEvent_of_queued {d : Device} (room : d.engine.queue.length < 32) (l : Locus) (f : Frame)
    {x : Locus} {g : Frame} (h : queued d.engine x g) : queued (takeEvent l f d).engine x g := by
  obtain ⟨e, he, same⟩ := h
  unfold queued
  rw [takeEvent_queue_of_room room]
  split_ifs
  · refine ⟨_, List.mem_map_of_mem he, ?_⟩
    split_ifs <;> exact same
  · exact ⟨e, (insertEntry_perm _ _).mem_iff.2 (List.mem_cons_of_mem _ he), same⟩

/-! ### The pins of a strobe, one after another (R102 to R104) -/

section
variable {i : LaneId} {tag failing mask : Byte} {p : Fin 8}

theorem judgePin_of_fails (fails : failing.getLsbD p.val = true) :
    judgePin i tag failing mask d p = takeEvent (.strobe i p tag) d.link.frame d := if_pos fails

/-- A pin is selected and does not fail (R103). -/
def pinPasses (mask failing : Byte) (p : Fin 8) : Bool := mask.getLsbD p.val && !failing.getLsbD p.val

theorem pinPasses_of_passes (passes : failing.getLsbD p.val = false) :
    pinPasses mask failing p = mask.getLsbD p.val := by
  rw [pinPasses, passes, Bool.not_false, Bool.and_true]

theorem judgePin_of_passes (passes : failing.getLsbD p.val = false) : judgePin i tag failing mask d p =
    if pinPasses mask failing p then opportunity (.strobe i p tag) d else d := by
  rw [judgePin, pinPasses_of_passes passes, passes]
  rfl

/-- A record is credited with an opportunity where it is of one of the pins that pass (R103). -/
def creditPins (i : LaneId) (tag : Byte) (passes : Fin 8 → Bool) (ps : List (Fin 8)) (r : SuspectRecord) :
    SuspectRecord :=
  if ∃ p ∈ ps, passes p = true ∧ r.locus = .strobe i p tag then credited r else r

theorem creditPins_singleton (passes : Fin 8 → Bool) (r : SuspectRecord) : creditPins i tag passes [p] r =
    if passes p = true ∧ r.locus = .strobe i p tag then credited r else r := by
  simp [creditPins]

theorem creditPins_of_not_passes {passes : Fin 8 → Bool} {ps : List (Fin 8)} (h : ∀ p ∈ ps, passes p = false) :
    creditPins i tag passes ps = id := by
  refine funext fun r => if_neg ?_
  rintro ⟨p, hp, passed, -⟩
  exact Bool.false_ne_true ((h p hp).symm.trans passed)

/-- A record is of one pin at most, so that no two pins credit it. -/
theorem creditPins_cons {passes : Fin 8 → Bool} {ps : List (Fin 8)} (fresh : p ∉ ps) (r : SuspectRecord) :
    creditPins i tag passes (p :: ps) r = creditPins i tag passes ps (creditPins i tag passes [p] r) := by
  by_cases first : passes p = true ∧ r.locus = .strobe i p tag
  · have later : ¬∃ q ∈ ps, passes q = true ∧ (credited r).locus = .strobe i q tag := by
      rintro ⟨q, hq, -, same⟩
      obtain ⟨-, rfl, -⟩ := Locus.strobe.inj (first.2.symm.trans same)
      exact fresh hq
    rw [creditPins_singleton, if_pos first, creditPins, creditPins, if_neg later]
    exact if_pos ⟨p, List.mem_cons_self, first⟩
  · rw [creditPins_singleton, if_neg first]
    simp [creditPins, first]

/-- A judged pin that passes, or whose event finds room, credits its record alone (R103). -/
theorem judgePin_table (room : failing.getLsbD p.val = false ∨ d.engine.queue.length < 32) :
    (judgePin i tag failing mask d p).engine.table =
      d.engine.table.map (creditPins i tag (pinPasses mask failing) [p]) := by
  have stand : pinPasses mask failing p = false →
      d.engine.table.map (creditPins i tag (pinPasses mask failing) [p]) = d.engine.table := fun h => by
    rw [creditPins_of_not_passes (List.forall_mem_singleton.2 h), List.map_id]
  cases fails : failing.getLsbD p.val with
  | true =>
    rw [judgePin_of_fails d fails, takeEvent_table_of_room (room.resolve_left (by rw [fails]; exact Bool.noConfusion)),
      stand (by rw [pinPasses, fails, Bool.not_true, Bool.and_false])]
  | false =>
    rw [judgePin_of_passes d fails]
    cases passed : pinPasses mask failing p with
    | true =>
      refine (mapRecord_creditRecord _ _).trans (List.map_congr_left fun r _ => ?_)
      rw [creditPins_singleton, passed]
      simp
    | false => exact (stand passed).symm

theorem length_judgePin_queue (room : d.engine.queue.length < 32) :
    (judgePin i tag failing mask d p).engine.queue.length ≤ d.engine.queue.length + 1 := by
  unfold judgePin
  split_ifs
  · exact length_takeEvent_queue room _ _
  · exact Nat.le_succ _
  · exact Nat.le_succ _

theorem queued_judgePin (room : d.engine.queue.length < 32) {x : Locus} {g : Frame} (h : queued d.engine x g) :
    queued (judgePin i tag failing mask d p).engine x g := by
  unfold judgePin
  split_ifs
  · exact queued_takeEvent_of_queued room _ _ h
  · exact h
  · exact h

/-- The table after some pins: where no event settles an entry early, each pin that passes credits its record. -/
theorem judgePins_table {ps : List (Fin 8)} (nodup : ps.Nodup)
    (room : (∀ p ∈ ps, failing.getLsbD p.val = false) ∨ d.engine.queue.length + ps.length ≤ 32) :
    (ps.foldl (judgePin i tag failing mask) d).engine.table =
      d.engine.table.map (creditPins i tag (pinPasses mask failing) ps) := by
  induction ps generalizing d with
  | nil => rw [creditPins_of_not_passes fun p hp => absurd hp List.not_mem_nil, List.map_id, List.foldl_nil]
  | cons p ps ih =>
    obtain ⟨fresh, nodup⟩ := List.nodup_cons.1 nodup
    have here : failing.getLsbD p.val = false ∨ d.engine.queue.length < 32 :=
      room.imp (fun h => h p List.mem_cons_self) fun h => by rw [List.length_cons] at h; omega
    have rest : (∀ q ∈ ps, failing.getLsbD q.val = false) ∨
        (judgePin i tag failing mask d p).engine.queue.length + ps.length ≤ 32 :=
      room.imp (fun h q hq => h q (List.mem_cons_of_mem _ hq)) fun h => by
        rw [List.length_cons] at h
        have grown := length_judgePin_queue d (i := i) (tag := tag) (failing := failing) (mask := mask) (p := p)
          (by omega)
        omega
    rw [List.foldl_cons, ih _ nodup rest, judgePin_table d here, List.map_map]
    exact List.map_congr_left fun r _ => (creditPins_cons fresh r).symm

/-- A pin that fails is queued, and stays so through the pins after it. -/
theorem queued_judgePins {ps : List (Fin 8)} (room : d.engine.queue.length + ps.length ≤ 32)
    (h : queued d.engine (.strobe i p tag) d.link.frame ∨ p ∈ ps ∧ failing.getLsbD p.val = true) :
    queued (ps.foldl (judgePin i tag failing mask) d).engine (.strobe i p tag) d.link.frame := by
  induction ps generalizing d with
  | nil => exact h.resolve_right fun hp => List.not_mem_nil hp.1
  | cons q ps ih =>
    rw [List.length_cons] at room
    have free : d.engine.queue.length < 32 := by omega
    have grown := length_judgePin_queue d (i := i) (tag := tag) (failing := failing) (mask := mask) (p := q) free
    have frame := (judgePin_keeps d i tag failing mask q).frame
    rw [List.foldl_cons, ← frame]
    refine ih _ (by omega) ?_
    rw [frame]
    rcases h with old | ⟨hp, fails⟩
    · exact .inl (queued_judgePin d free old)
    · rcases List.mem_cons.1 hp with rfl | later
      · exact .inl (by rw [judgePin_of_fails d fails]; exact queued_takeEvent d _ _)
      · exact .inr ⟨later, fails⟩

/-- Pins that all pass touch the record table alone (R103). -/
theorem judgePins_of_pass (ps : List (Fin 8)) (passes : ∀ p ∈ ps, failing.getLsbD p.val = false) :
    ps.foldl (judgePin i tag failing mask) d = setEngine
      { d.engine with table := (ps.foldl (judgePin i tag failing mask) d).engine.table } d := by
  induction ps generalizing d with
  | nil => rfl
  | cons p ps ih =>
    have rest := ih (judgePin i tag failing mask d p) fun q hq => passes q (List.mem_cons_of_mem _ hq)
    have first : failing.getLsbD p.val = false := passes p List.mem_cons_self
    rw [List.foldl_cons]
    rw [judgePin_of_passes d first] at rest ⊢
    split_ifs at rest ⊢ <;> exact rest

/-- Pins that are not selected hand nothing on (R104). -/
theorem judgePins_of_unselected (ps : List (Fin 8)) (passes : ∀ p ∈ ps, failing.getLsbD p.val = false)
    (unselected : ∀ p ∈ ps, mask.getLsbD p.val = false) : ps.foldl (judgePin i tag failing mask) d = d := by
  induction ps with
  | nil => rfl
  | cons p ps ih =>
    have first : judgePin i tag failing mask d p = d := by
      rw [judgePin_of_passes d (passes p List.mem_cons_self), pinPasses, unselected p List.mem_cons_self]
      rfl
    rw [List.foldl_cons, first]
    exact ih (fun q hq => passes q (List.mem_cons_of_mem _ hq)) fun q hq => unselected q (List.mem_cons_of_mem _ hq)

theorem getLsbD_one_shiftLeft : ∀ p q : Fin 8, (1#8 <<< p.val).getLsbD q.val = decide (q = p) := by decide

/-- With one pin selected, and failing, that pin's event is all that happens. -/
theorem judgePins_of_single {ps : List (Fin 8)} (nodup : ps.Nodup) (hp : p ∈ ps) :
    ps.foldl (judgePin i tag (1#8 <<< p.val) (1#8 <<< p.val)) d =
      takeEvent (.strobe i p tag) d.link.frame d := by
  obtain ⟨before, after, rfl⟩ := List.append_of_mem hp
  obtain ⟨-, split, apart⟩ := List.nodup_append.1 nodup
  have clear : ∀ qs : List (Fin 8), p ∉ qs → ∀ q ∈ qs, (1#8 <<< p.val).getLsbD q.val = false := fun qs hqs q hq => by
    rw [getLsbD_one_shiftLeft]
    exact decide_eq_false fun same => hqs (same ▸ hq)
  have first := clear before fun h => apart p h p List.mem_cons_self rfl
  have last := clear after (List.nodup_cons.1 split).1
  rw [List.foldl_append, judgePins_of_unselected d before first first, List.foldl_cons,
    judgePins_of_unselected _ after last last, judgePin_of_fails d (by simp)]

end

/-! ### A strobe (R102, R104, R105) -/

theorem strobe_of_void {i : LaneId} {tag expected mask : Byte} (h : d.power.state ≠ .on ∨ mask = 0) :
    strobe i tag expected mask d = d := if_pos h

/-- The selected pins of lane i whose sample is not the expected one (R102). -/
def failingPins (d : Device) (i : LaneId) (expected mask : Byte) : Byte := ((capture d i).sample ^^^ expected) &&& mask

/-- The device with the eight pins of lane i judged. -/
def judgedPins (i : LaneId) (tag failing mask : Byte) (d : Device) : Device :=
  (List.finRange 8).foldl (judgePin i tag failing mask) d

theorem capture_judgedPins (i j : LaneId) (tag failing mask : Byte) :
    capture (judgedPins i tag failing mask d) j = capture d j := by
  obtain ⟨-, -, -, -, captures, -⟩ := judgePins_frame d i tag failing mask (List.finRange 8)
  rw [capture, judgedPins, captures, capture]

theorem strobe_of_judged {i : LaneId} {tag expected mask : Byte} (on : d.power.state = .on) (selects : mask ≠ 0) :
    strobe i tag expected mask d =
      setCapture i (recordResult (failingPins d i expected mask != 0) (capture d i))
        (judgedPins i tag (failingPins d i expected mask) mask d) := by
  have judged : ¬(d.power.state ≠ .on ∨ mask = 0) := not_or.2 ⟨not_not.2 on, selects⟩
  have stands := capture_judgedPins d i i tag (failingPins d i expected mask) mask
  rw [strobe, if_neg judged]
  exact congrArg (fun c => setCapture i (recordResult (failingPins d i expected mask != 0) c)
    (judgedPins i tag (failingPins d i expected mask) mask d)) stands

theorem recordResult_eq (failing : Byte) (c : Capture) : recordResult (failing != 0) c =
    { c with result := if failing = 0 then .pass else .fail, everFailed := c.everFailed || decide (failing ≠ 0) } := by
  by_cases h : failing = 0
  · simp [recordResult, h]
  · rw [recordResult, bne_iff_ne.2 h, if_pos rfl, if_neg h, decide_eq_true h]

/-- The record table that a strobe of one pin after another leaves, said of the eight pins at once. -/
theorem judgedPins_table {i : LaneId} {tag failing mask : Byte}
    (room : failing = 0 ∨ d.engine.queue.length ≤ 24) :
    (judgedPins i tag failing mask d).engine.table = d.engine.table.map fun r =>
      if ∃ pin : Fin 8, mask.getLsbD pin.val = true ∧ failing.getLsbD pin.val = false ∧ r.locus = .strobe i pin tag
      then credited r else r := by
  refine (judgePins_table d (List.nodup_finRange 8) (room.imp (fun h p _ => by simp [h]) fun h => ?_)).trans ?_
  · rw [List.length_finRange]; omega
  · refine List.map_congr_left fun r _ => if_congr ?_ rfl rfl
    simp only [pinPasses, List.mem_finRange, true_and, Bool.and_eq_true, Bool.not_eq_true', and_assoc]

/-- A strobe without a failing pin credits the records of its pins, and touches nothing else (R103). -/
theorem judgedPins_of_pass (i : LaneId) (tag mask : Byte) : judgedPins i tag 0 mask d = setEngine
    { d.engine with table := d.engine.table.map fun r =>
        if ∃ pin : Fin 8, mask.getLsbD pin.val = true ∧ r.locus = .strobe i pin tag then credited r else r } d := by
  have clear : ∀ p : Fin 8, (0 : Byte).getLsbD p.val = false := fun _ => BitVec.getLsbD_zero
  have table := judgedPins_table d (i := i) (tag := tag) (mask := mask) (.inl rfl)
  simp only [clear, true_and] at table
  rw [← table]
  exact judgePins_of_pass d (List.finRange 8) fun p _ => clear p

/-! ### A CLOSE (R105, R107, R108) -/

section
variable {i : LaneId} {tag : Byte} {expected : Word}

theorem closeWindow_of_misuse (h : (capture d i).window ≠ some tag) : closeWindow i tag expected d =
    raiseCause .windowMisuse (setCapture i { capture d i with window := none } d) := if_pos h

theorem closeWindow_of_void (h : (capture d i).window = some tag) (off : d.power.state ≠ .on) :
    closeWindow i tag expected d = setCapture i { capture d i with window := none } d := by
  rw [closeWindow, if_neg (not_not.2 h), if_pos off]

theorem closeWindow_of_equal (h : (capture d i).window = some tag) (on : d.power.state = .on)
    (equal : (capture d i).signature = expected) : closeWindow i tag expected d =
      opportunity (.signature i tag) (setCapture i { capture d i with window := none, result := .pass } d) := by
  rw [closeWindow, if_neg (not_not.2 h), if_neg (not_not.2 on), if_pos equal, capture_setCapture_self,
    setCapture_setCapture]
  simp [recordResult, equal]

theorem closeWindow_of_different (h : (capture d i).window = some tag) (on : d.power.state = .on)
    (different : (capture d i).signature ≠ expected) : closeWindow i tag expected d =
      setCapture i { capture d i with window := none, result := .fail, everFailed := true }
        (takeEvent (.signature i tag) d.link.frame d) := by
  rw [closeWindow, if_neg (not_not.2 h), if_neg (not_not.2 on), if_neg different, capture_setCapture_self,
    setCapture_setCapture, takeEvent_setCapture]
  have fails : ((capture d i).signature != expected) = true := bne_iff_ne.2 different
  simp [recordResult, fails]

/-- Whatever a CLOSE finds, it closes the window and leaves the signature, the count and the sample. -/
theorem capture_closeWindow : ∃ result everFailed, capture (closeWindow i tag expected d) i =
    { capture d i with window := none, result := result, everFailed := everFailed } := by
  by_cases window : (capture d i).window = some tag
  · by_cases on : d.power.state = .on
    · by_cases equal : (capture d i).signature = expected
      · exact ⟨_, _, by rw [closeWindow_of_equal d window on equal, capture_opportunity, capture_setCapture_self]⟩
      · exact ⟨_, _, by rw [closeWindow_of_different d window on equal, capture_setCapture_self]⟩
    · exact ⟨_, _, by rw [closeWindow_of_void d window on, capture_setCapture_self]⟩
  · exact ⟨_, _, by rw [closeWindow_of_misuse d window, capture_raiseCause, capture_setCapture_self]⟩

end

end Sys2Proof.Machine

namespace Sys2Proof.Proofs

open Sys2Proof.Machine Sys2Proof.Safety

/-- Settles O22: a strobe is the fold of its judged pins under the new result, and a CLOSE has four outcomes, by the
window, the power and the signature. -/
theorem strobesAndClosesAreJudged : Obligations.StrobesAndClosesAreJudged := by
  refine ⟨fun d i tag expected mask => ⟨strobe_of_void d, fun on selects => ?strobe⟩, fun d i tag expected => ?close⟩
  case strobe =>
    intro failing d'
    have judged : d' = setCapture i (recordResult (failing != 0) (capture d i)) (judgedPins i tag failing mask d) :=
      strobe_of_judged d on selects
    refine ⟨?result, fun j hj => ?others, fun clean => ?clean, fun room => ⟨fun pin fails => ?queued, ?table⟩,
      fun pin single whole => ?single, strobe_lanes .., strobe_power .., strobe_pattern ..⟩
    case result => rw [judged, capture_setCapture_self, recordResult_eq]
    case others => rw [judged, capture_setCapture_ne _ hj, capture_judgedPins]
    case clean =>
      rw [judged, clean, judgedPins_of_pass]
      exact ⟨rfl, rfl, rfl⟩
    case queued =>
      rw [judged, setCapture_engine]
      exact queued_judgePins d (by rw [List.length_finRange]; omega) (.inr ⟨List.mem_finRange pin, fails⟩)
    case table =>
      rw [judged, setCapture_engine]
      exact judgedPins_table d (.inr room)
    case single =>
      have taken : judgedPins i tag failing mask d = takeEvent (.strobe i pin tag) d.link.frame d := by
        rw [whole, single]
        exact judgePins_of_single d (List.nodup_finRange 8) (List.mem_finRange pin)
      rw [judged, taken]
      rfl
  case close =>
    intro c d'
    obtain ⟨result, everFailed, left⟩ := capture_closeWindow d (i := i) (tag := tag) (expected := expected)
    refine ⟨by rw [left], by rw [left], by rw [left], by rw [left], (closeWindow_onlyLane i d tag expected).captures,
      fun window on equal => ?pass, fun window on different => ?fail, closeWindow_of_void d, fun misused => ?misuse⟩
    case pass =>
      have passed : d' = _ := closeWindow_of_equal d window on equal
      rw [passed]
      refine ⟨?_, ?_, rfl, ?_⟩
      · rw [capture_opportunity, capture_setCapture_self]
      · rw [capture_opportunity, capture_setCapture_self]
      · rw [opportunity_engine, mapRecord_creditRecord]
        rfl
    case fail =>
      have failed : d' = _ := closeWindow_of_different d window on different
      rw [failed]
      refine ⟨?_, queued_takeEvent d _ _⟩
      rw [setCapture, takeEvent_captures]
    case misuse =>
      have misuse : d' = _ := closeWindow_of_misuse d misused
      rw [misuse, capture_raiseCause, capture_setCapture_self, raiseCause_engine]
      exact ⟨occurred_raiseCause _ .windowMisuse, rfl, rfl, rfl⟩

end Sys2Proof.Proofs
end


section
/-! One walk over every command for a property of the attribution engine: it is kept by every step once the engine's
own operations keep it, since all other work leaves the engine. -/

namespace Sys2Proof.Machine

/-- Between two devices the engine keeps a property. -/
def EngineKept (P : Engine → Prop) (d d' : Device) : Prop := P d.engine → P d'.engine

/-- A property of the attribution engine that the engine's own operations keep. -/
structure KeptByEngine (P : Engine → Prop) : Prop where
  cold : P Engine.cold
  takeEvent : ∀ (l : Locus) (f : Frame) (d : Device), EngineKept P d (takeEvent l f d)
  opportunity : ∀ (l : Locus) (d : Device), EngineKept P d (opportunity l d)
  settleDue : ∀ d : Device, EngineKept P d (settleDue d)
  tallyShift : ∀ d : Device, EngineKept P d (tallyShift d)
  decayTable : ∀ d : Device, EngineKept P d (decayTable d)
  clearTable : ∀ d : Device, EngineKept P d (clearTable d)
  setPin : ∀ (serial : Nat) (pinned : Bool) (d : Device), EngineKept P d (setPin serial pinned d)
  restarted : ∀ g : Engine, P g → P g.restarted

namespace EngineKept

variable {P : Engine → Prop}

theorem refl (d : Device) : EngineKept P d d := id

theorem trans {a b c : Device} (hab : EngineKept P a b) (hbc : EngineKept P b c) : EngineKept P a c := hbc ∘ hab

theorem of_same {d d' : Device} (same : d'.engine = d.engine) : EngineKept P d d' := fun h => same ▸ h

/-- Work from a device with the same engine. -/
theorem after_same {d x d' : Device} (kept : EngineKept P x d') (same : x.engine = d.engine) : EngineKept P d d' :=
  (of_same same).trans kept

theorem ite {c : Prop} [Decidable c] {d a b : Device} (ha : EngineKept P d a) (hb : EngineKept P d b) :
    EngineKept P d (if c then a else b) := by
  split_ifs
  · exact ha
  · exact hb

theorem foldl {α : Type} {f : Device → α → Device} (h : ∀ d a, EngineKept P d (f d a)) (l : List α) (d : Device) :
    EngineKept P d (l.foldl f d) := by
  induction l generalizing d with
  | nil => exact refl d
  | cons a l ih => exact (h d a).trans (ih _)

end EngineKept

section

variable (d : Device)

/-! ### Work that leaves the engine -/

theorem codeFault_engine (k : FaultKind) (i : LaneId) : (codeFault k i d).engine = d.engine := by simp [codeFault]

theorem streamStop_engine (i : LaneId) : (streamStop i d).engine = d.engine := by simp [streamStop]

theorem repeatCode_engine (n : Nat) (i : LaneId) : (repeatCode n i d).device.engine = d.engine := by
  unfold repeatCode
  dsimp only
  split_ifs
  · exact codeFault_engine d _ i
  · rfl

theorem againCode_engine (i : LaneId) : (againCode i d).device.engine = d.engine := by
  unfold againCode
  dsimp only
  split
  · exact codeFault_engine d _ i
  · split_ifs <;> rfl

theorem wrapCode_engine (i : LaneId) : (wrapCode i d).device.engine = d.engine := by
  unfold wrapCode
  dsimp only
  split_ifs <;> rfl

theorem lastCode_engine (i : LaneId) : (lastCode i d).engine = d.engine := by
  unfold lastCode
  split
  · rfl
  · rfl
  · exact codeFault_engine d _ i

theorem giveLanesAndTest_engine (r : LaneRequest) : (giveLanesAndTest r d).engine = d.engine := by
  unfold giveLanesAndTest
  dsimp only
  split_ifs <;> simp

theorem givePowerOff_engine : (givePowerOff d).engine = d.engine := by
  unfold givePowerOff
  dsimp only
  split_ifs <;> simp

theorem fallDone_engine : (fallDone d).engine = d.engine := by
  unfold fallDone
  dsimp only
  split_ifs <;> simp

theorem dwellEnd_engine : (dwellEnd d).engine = d.engine := by
  unfold dwellEnd
  split_ifs <;> simp

theorem dwellMark_engine : (dwellMark d).engine = d.engine := by
  unfold dwellMark
  split
  · split_ifs
    · exact dwellEnd_engine d
    · rfl
  · rfl

theorem jobTrip_engine : (jobTrip d).engine = d.engine := by
  unfold jobTrip
  split
  · exact closingTest_engine d
  iterate 4 rfl
  all_goals
    dsimp only
    split_ifs <;> simp

theorem takeDeferred_engine (r : Deferred) : (takeDeferred d r).engine = d.engine := by
  cases r with
  | request r => exact giveLanesAndTest_engine d r
  | powerOff => exact cyclePowerOff_engine d
  | report => exact closingTest_engine d

theorem deliver_engine (later : List Deferred) : (deliver later d).engine = d.engine := by
  unfold deliver
  induction later generalizing d with
  | nil => rfl
  | cons r later ih => exact (ih _).trans (takeDeferred_engine d r)

theorem resumeLane_engine (i : LaneId) : (resumeLane d i).engine = d.engine := by
  unfold resumeLane
  dsimp only
  split_ifs <;> simp

theorem fullScaleCause_engine (was : Bool) (v : Nat) : (fullScaleCause was v d).engine = d.engine := by
  unfold fullScaleCause
  split_ifs <;> simp

theorem readTemperature_engine (t : TempReading) : (readTemperature t d).engine = d.engine := by
  cases t with
  | sensorOpen => exact raiseCause_engine _ _
  | halfDegrees t =>
    unfold readTemperature
    dsimp only
    split_ifs <;> simp

theorem bodyLoad_engine (args : List Byte) : (bodyLoad args d).1.engine = d.engine := by
  unfold bodyLoad
  dsimp only
  split_ifs <;> rfl

theorem bodyJobLanes_engine (args : List Byte) : (bodyJobLanes args d).1.engine = d.engine := by
  unfold bodyJobLanes
  dsimp only
  split_ifs <;> rfl

theorem acceptSettings_engine (n : NamedSettings) : (acceptSettings n d).engine = d.engine := by
  unfold acceptSettings
  split_ifs <;> simp

theorem bodyPause_engine : (bodyPause d).1.engine = d.engine := by
  unfold bodyPause
  split_ifs
  · exact giveLanesAndTest_engine _ _
  · rfl

theorem abortJob_engine : (abortJob d).engine = d.engine := by
  unfold abortJob
  dsimp only
  split_ifs <;> simp

end

section

variable {P : Engine → Prop} (h : KeptByEngine P) (d : Device)

include h

/-! ### Code runs (R68 to R83, R101 to R109) -/

theorem judgePin_engineKept (i : LaneId) (tag failing mask : Byte) (p : Fin 8) :
    EngineKept P d (judgePin i tag failing mask d p) :=
  .ite (h.takeEvent _ _ d) (.ite (h.opportunity _ d) (.refl d))

theorem strobe_engineKept (i : LaneId) (tag expected mask : Byte) : EngineKept P d (strobe i tag expected mask d) :=
  .ite (.refl d) (EngineKept.foldl (fun x p => judgePin_engineKept h x _ _ _ _ p) _ d)

theorem closeWindow_engineKept (i : LaneId) (tag : Byte) (w : Word) : EngineKept P d (closeWindow i tag w d) :=
  .ite (.of_same (raiseCause_engine _ _)) (.ite (.refl d) (.ite (h.opportunity _ _) (.after_same (h.takeEvent _ _ _) rfl)))

theorem countCycle_engineKept : EngineKept P d (countCycle d) :=
  (h.decayTable (setJob { d.job with cycles := d.job.cycles + 1 } d)).trans (.of_same (stagedInForce_engine _))

theorem jobCycle_engineKept (giving : Bool) : EngineKept P d (jobCycle giving d).1 := by
  have count := countCycle_engineKept h d
  unfold jobCycle
  dsimp only
  split_ifs
  · exact count
  · exact count.trans (.of_same (enterClosing_engine _ _))
  · exact count.trans (.of_same (enterCycling_engine _))
  · exact count.trans (.of_same ((cyclePowerOff_engine _).trans (enterCycling_engine _)))
  · exact count
  · exact .refl d

theorem markCode_engineKept (giving : Bool) (k : Byte) (i : LaneId) :
    EngineKept P d (markCode giving k i d).device := by
  unfold markCode
  split_ifs
  · exact jobCycle_engineKept h d giving
  · exact .refl d
  · exact .of_same (raiseCause_engine _ _)

theorem oneCode_engineKept (giving : Bool) (i : LaneId) : EngineKept P d (oneCode giving i d).device := by
  unfold oneCode
  dsimp only
  split_ifs
  · exact .of_same (codeFault_engine d _ i)
  cases decodeCode (patternRead d.pattern (lane d i).position) with
  | stop => exact .of_same (streamStop_engine d i)
  | vector v => exact .of_same rfl
  | hold n => exact .of_same rfl
  | loop n => exact .of_same (repeatCode_engine d n i)
  | again => exact .of_same (againCode_engine d i)
  | strobe tag => exact strobe_engineKept h (advance 2 i d) i tag _ _
  | openWindow tag => exact .of_same (openWindow_engine _ i tag)
  | closeWindow tag => exact closeWindow_engineKept h (advance 2 i d) i tag _
  | mark k => exact markCode_engineKept h (advance 1 i d) giving k i
  | rate => exact .of_same rfl
  | park v => exact .of_same rfl
  | wrap => exact .of_same (wrapCode_engine d i)
  | undefinedCode => exact .of_same (codeFault_engine d _ i)

theorem codeRun_engineKept (giving : Bool) (i : LaneId) (k : Nat) : EngineKept P d (codeRun giving i k d).1 := by
  induction k generalizing d with
  | zero => exact .ite (.of_same (codeFault_engine d _ i)) (.of_same (lastCode_engine d i))
  | succ k ih =>
    have one := oneCode_engineKept h d giving i
    unfold codeRun
    split_ifs
    · exact .of_same (codeFault_engine d _ i)
    · rcases result : oneCode giving i d with d1 | ⟨d1, later⟩ <;> rw [result] at one
      · exact one
      · exact one.trans (ih d1)

/-! ### Step events, starts and resumes (R86, R87, R93, R163) -/

theorem stepCore_engineKept (giving : Bool) (i : LaneId) : EngineKept P d (stepCore giving i d).1 := by
  have run : EngineKept P d (codeRun giving i Config.runLimit (takeSample i d)).1 :=
    codeRun_engineKept h (takeSample i d) giving i Config.runLimit
  unfold stepCore
  dsimp only
  split_ifs
  · exact .of_same rfl
  · exact run
  · exact run
  · exact run.trans (.of_same (closingTest_engine _))

theorem stepExpiry_engineKept (i : LaneId) : EngineKept P d (stepExpiry i d) := by
  unfold stepExpiry
  split
  · exact .ite ((stepCore_engineKept h (atMoment _ d) false i).trans (.of_same (deliver_engine _ _))) (.refl d)
  · exact .refl d
  · exact .refl d

theorem startLane_engineKept (i : LaneId) : EngineKept P d (startLane i d).1 := by
  unfold startLane
  dsimp only
  split_ifs
  · exact stepCore_engineKept h (setLane i (freshLane d.job.starts[i] .playing (lane d i)) (abandon i d)) true i
  · exact .of_same rfl

theorem startLanes_engineKept (is : List LaneId) : EngineKept P d (startLanes is d).1 := by
  induction is generalizing d with
  | nil => exact .refl d
  | cons i is ih => exact (startLane_engineKept h d i).trans (ih _)

theorem jobPowerOn_engineKept : EngineKept P d (jobPowerOn d) :=
  .ite ((startLanes_engineKept h (setJob { d.job with state := .running, phase := none } d) _).trans
    (.of_same (deliver_engine _ _))) (.refl d)

theorem resumeSteps_engineKept (is : List LaneId) : EngineKept P d (resumeSteps is d).1 := by
  induction is generalizing d with
  | nil => exact .refl d
  | cons i is ih =>
    have step : EngineKept P d (if (lane d i).state.going then stepCore false i d else (d, [])).1 := by
      split_ifs
      · exact stepCore_engineKept h d false i
      · exact .refl d
    exact step.trans (ih _)

theorem giveResume_engineKept : EngineKept P d (giveResume d) := by
  have lanes : EngineKept P d (allLanes.foldl resumeLane d) :=
    .foldl (fun x i => .of_same (resumeLane_engine x i)) _ d
  unfold giveResume
  refine .trans (.trans ?_ (resumeSteps_engineKept h _ _)) (.of_same (deliver_engine _ _))
  exact .ite (lanes.trans (.of_same (closingTest_engine _))) lanes

/-! ### Samples and the board (R51 to R57) -/

theorem tripWith_engineKept (c : Cause) (r : RailId) (disturb : Bool) : EngineKept P d (tripWith c r disturb d) := by
  have event : EngineKept P d (takeEvent (.trip r) d.link.frame (raiseCause c (setPower (tripped d.power) d))) :=
    .after_same (h.takeEvent _ _ _) (raiseCause_engine _ c)
  have request := EngineKept.ite (c := disturb = true)
    (event.trans (.of_same (requestDisturb_engine _ d.link.frame .rail))) event
  have left := EngineKept.ite (c := d.power.state = .on)
    (request.trans (.of_same (giveLanes_engine _ .powerLeft))) request
  exact left.trans (.of_same (jobTrip_engine _))

theorem railGlitch_engineKept (r : RailId) (f : Frame) : EngineKept P d (railGlitch r f d) :=
  .trans (.of_same (raiseCause_engine d .railGlitch))
    ((h.takeEvent (.glitch r) f _).trans (.of_same (requestDisturb_engine _ f .rail)))

theorem superviseCurrent_engineKept (v : Nat) : EngineKept P d (superviseCurrent v d) :=
  .ite (.ite (.ite (tripWith_engineKept h d _ _ _) (.refl d)) (.refl d)) (.refl d)

theorem superviseRail_engineKept (r : RailId) : EngineKept P d (superviseRail r d) :=
  .ite (.ite (.refl d) (railGlitch_engineKept h d _ _))
    (.ite (tripWith_engineKept h (outsideSample r d) _ _ _) (.refl d))

theorem sampleRail_engineKept (r : RailId) (v : Nat) : EngineKept P d (sampleRail r v d) := by
  have stored : ∀ p : Power, EngineKept P d (fullScaleCause d.power.rails[r].fullScale v (setPower p d)) :=
    fun p => .of_same (fullScaleCause_engine _ _ _)
  unfold sampleRail
  dsimp only
  split
  · exact (stored _).trans (superviseRail_engineKept h _ _)
  · exact .ite ((stored _).trans (.of_same (fallDone_engine _))) (stored _)
  all_goals exact stored _

theorem sampleChannel_engineKept (c : Channel) (v : Nat) : EngineKept P d (sampleChannel c v d) := by
  cases c with
  | rail r => exact sampleRail_engineKept h d r v
  | current => exact .after_same (superviseCurrent_engineKept h _ _) (fullScaleCause_engine _ _ _)

/-! ### The blocks at a mark (R3, R55 to R57, R111, R119) -/

theorem riseEndTest_engineKept : EngineKept P d (riseEndTest d) := by
  unfold riseEndTest
  split
  · have credited : EngineKept P d (tripOpportunities (setPower (risen d.power) d)) :=
      EngineKept.foldl (fun x _ => h.opportunity _ x) _ (setPower (risen d.power) d)
    exact credited.trans (jobPowerOn_engineKept h _)
  · exact tripWith_engineKept h (setPower (clearExcursions d.power) d) _ _ _

theorem powerMark_engineKept : EngineKept P d (powerMark d) := by
  have credited : EngineKept P d (glitchOpportunities d.power d) :=
    .foldl (fun x _ => .ite (.refl x) (h.opportunity _ x)) _ d
  unfold powerMark
  split
  · exact credited
  · exact .ite (riseEndTest_engineKept h d) (.refl d)
  · exact .ite (.of_same (fallDone_engine _)) (.refl d)
  all_goals exact .refl d

theorem monitorMark_engineKept (v : MarkView) : EngineKept P d (monitorMark v d) :=
  .trans (.of_same (readTemperature_engine d _)) (powerMark_engineKept h _)

theorem settleMark_engineKept : EngineKept P d (settleMark d) :=
  .ite ((h.settleDue d).trans (.of_same (closingTest_engine _))) (h.settleDue d)

theorem settleAndMonitor_engineKept (v : MarkView) : EngineKept P d (settleAndMonitor v d) :=
  .ite ((settleMark_engineKept h d).trans (monitorMark_engineKept h _ v))
    ((monitorMark_engineKept h d v).trans (settleMark_engineKept h _))

theorem handleMark_engineKept (view : MarkView) : EngineKept P d (handleMark view d) := by
  have viewed : EngineKept P d (dwellMark (peerMark d)) :=
    .of_same ((dwellMark_engine _).trans (by rw [peerMark_eq]))
  have begun := viewed.trans (h.tallyShift _)
  unfold handleMark
  dsimp only
  split_ifs
  · exact begun.trans (.trans (.of_same (offer_engine _ _)) (settleAndMonitor_engineKept h _ view))
  · exact begun.trans ((settleAndMonitor_engineKept h _ view).trans (.of_same (offer_engine _ _)))

/-! ### Command items (R162, R167) -/

theorem startJob_engineKept (keep : Bool) : EngineKept P d (startJob keep d) := by
  have begun : EngineKept P d (clearEverFailed (setJob (startedJob d.job) d)) := .refl d
  have powered := (EngineKept.ite (c := keep = true) begun (begun.trans (h.clearTable _))).trans
    (.of_same (givePower_engine _))
  exact .ite (powered.trans (jobPowerOn_engineKept h _)) powered

theorem bodyResume_engineKept : EngineKept P d (bodyResume d).1 := by
  unfold bodyResume
  split_ifs
  · exact .trans (.of_same (enterClosing_engine d _))
      ((giveResume_engineKept h _).trans (.of_same (closingTest_engine _)))
  · exact giveResume_engineKept h (setJob { d.job with state := .running } d)
  · exact .refl d

/-- What the engine's own operations keep, the parts of all commands keep. -/
theorem keptByParts_of_engine : KeptByParts fun d => P d.engine where
  same same := EngineKept.of_same same.engine
  cold _ _ := h.cold
  sample c v d := sampleChannel_engineKept h d c v
  stepExpiry i d := stepExpiry_engineKept h d i
  dwellEnd d := EngineKept.of_same (dwellEnd_engine d)
  mark view d := handleMark_engineKept h d view
  load args d := EngineKept.of_same (bodyLoad_engine d args)
  jobLanes args d := EngineKept.of_same (bodyJobLanes_engine d args)
  settings n d := EngineKept.of_same (acceptSettings_engine d n)
  start keep d := startJob_engineKept h d keep
  pause d := EngineKept.of_same (bodyPause_engine d)
  resume d := bodyResume_engineKept h d
  abort d := EngineKept.of_same (abortJob_engine d)
  power d := EngineKept.of_same (givePower_engine d)
  powerOff d := EngineKept.of_same (givePowerOff_engine d)
  clearTable := h.clearTable
  pin := h.setPin
  restart d := h.restarted d.engine

end

end Sys2Proof.Machine
end


section
/-! The counters of the records and the repeat counts of the settling queue across every step (R116, R126 to R129,
R132). -/

namespace Sys2Proof.Machine

open Sys2Proof.Safety

/-! ### One record (R126 to R129, R132) -/

section

variable {r : SuspectRecord} {k : Nat}

/-- Halving where it is due keeps a record in range and makes room for an addition (R126). -/
theorem halveFor_recordInv (h : RecordInv r) (hk : k ≤ 255) :
    RecordInv (halveFor k r) ∧ (halveFor k r).opportunities + k ≤ 65535 := by
  unfold halveFor Config.counterLimit
  split_ifs
  · exact ⟨by simp only [RecordInv]; omega, by simp only; omega⟩
  · exact ⟨h, by omega⟩

/-- Occurrences added to a band, the hits and the opportunities, where there is room for them (R126, R127). -/
theorem addBand_recordInv (h : RecordInv r) (room : r.opportunities + k ≤ 65535) (b : Band) :
    RecordInv { addBand b k r with hits := (addBand b k r).hits + k,
                                   opportunities := (addBand b k r).opportunities + k } := by
  cases b <;> (dsimp only [addBand, RecordInv]; omega)

/-- A score halves first, then adds, and saturates at its limit (R126 to R128). -/
theorem scoreEntry_recordInv {e : Entry} (h : RecordInv r) (he : e.occurrences ≤ 255) (c : Nat) :
    RecordInv (scoreEntry e c r) := by
  obtain ⟨halved, room⟩ := halveFor_recordInv h he
  obtain ⟨cold, warm, hot, hits, opportunities, -⟩ := addBand_recordInv halved room e.band
  exact ⟨cold, warm, hot, hits, opportunities, Nat.min_le_left 65535 _⟩

theorem newRecord_recordInv (serial : Nat) (e : Entry) : RecordInv (newRecord serial e) := by
  simp [RecordInv, newRecord]

theorem creditRecord_recordInv (h : RecordInv r) : RecordInv (creditRecord r) := by
  obtain ⟨⟨cold, warm, hot, hits, -, score⟩, room⟩ := halveFor_recordInv h (k := 1) (by decide)
  exact ⟨cold, warm, hot, Nat.le_succ_of_le hits, room, score⟩

theorem decayRecord_recordInv (h : RecordInv r) : RecordInv (decayRecord r) := by
  obtain ⟨cold, warm, hot, hits, opportunities, score⟩ := h
  exact ⟨cold, warm, hot, hits, opportunities, (Nat.sub_le _ _).trans score⟩

end

/-! ### The table -/

/-- Every record of a table is in range. -/
def RecordsInRange (table : List SuspectRecord) : Prop := ∀ r ∈ table, RecordInv r

theorem RecordsInRange.map {table : List SuspectRecord} (h : RecordsInRange table) {f : SuspectRecord → SuspectRecord}
    (hf : ∀ {r}, RecordInv r → RecordInv (f r)) : RecordsInRange (table.map f) :=
  List.forall_mem_map.2 fun r hr => hf (h r hr)

theorem RecordsInRange.mapRecord {table : List SuspectRecord} (h : RecordsInRange table) (l : Locus)
    {f : SuspectRecord → SuspectRecord} (hf : ∀ {r}, RecordInv r → RecordInv (f r)) :
    RecordsInRange (mapRecord l f table) := by
  refine h.map fun {r} hr => ?_
  split_ifs
  · exact hf hr
  · exact hr

section

variable {d : Device} {e : Entry} (h : RecordsInRange d.engine.table)

include h

theorem settleFound_recordsInRange (he : e.occurrences ≤ 255) (c : Nat) :
    RecordsInRange (settleFound e c d).engine.table := by
  have scored := h.mapRecord e.locus fun hr => scoreEntry_recordInv hr he c
  unfold settleFound
  dsimp only
  split_ifs
  · rwa [raiseCause_engine]
  · exact scored

theorem settleNew_recordsInRange (he : e.occurrences ≤ 255) (c : Nat) :
    RecordsInRange (settleNew e c d).engine.table := by
  have added : RecordsInRange (d.engine.table ++ [scoreEntry e c (newRecord d.engine.nextSerial e)]) :=
    List.forall_mem_append.2 ⟨h, List.forall_mem_singleton.2 (scoreEntry_recordInv (newRecord_recordInv _ e) he c)⟩
  unfold settleNew
  dsimp only
  split_ifs
  · rwa [raiseCause_engine]
  · exact added

/-- A settle scores its entry into a record, found or new; the other ways leave every record as it is (R121 to
R128). -/
theorem settle_recordsInRange (he : e.occurrences ≤ 255) : RecordsInRange (settle e d).engine.table := by
  rcases settle_cases d e with ⟨-, way⟩ | ⟨-, -, way⟩ | ⟨-, -, ⟨-, way⟩ | ⟨-, ⟨r, -, way⟩ | ⟨-, way⟩⟩⟩ <;> rw [way]
  · rwa [rackEvent_eq, raiseCause_engine]
  · exact settleFound_recordsInRange h he _
  · exact settleNew_recordsInRange h he _
  · exact settleNew_recordsInRange (d := evict r d) (fun x hx => h x (List.mem_of_mem_eraseP hx)) he _
  · rwa [dropEntry, raiseCause_engine]

end

/-! ### The queue (R116) -/

/-- A repeat count from 1 to 255. -/
def RepeatsInRange (e : Entry) : Prop := 1 ≤ e.occurrences ∧ e.occurrences ≤ 255

theorem countersInv_iff (g : Engine) :
    CountersInv g ↔ (∀ e ∈ g.queue, RepeatsInRange e) ∧ RecordsInRange g.table := Iff.rfl

theorem insertEntry_repeatsInRange {e : Entry} {q : List Entry} (he : RepeatsInRange e)
    (h : ∀ x ∈ q, RepeatsInRange x) : ∀ x ∈ insertEntry e q, RepeatsInRange x := by
  induction q with
  | nil => exact List.forall_mem_singleton.2 he
  | cons y q ih =>
    obtain ⟨first, rest⟩ := List.forall_mem_cons.1 h
    unfold insertEntry
    split_ifs
    · exact List.forall_mem_cons.2 ⟨he, h⟩
    · exact List.forall_mem_cons.2 ⟨first, ih rest⟩

theorem mergeEntry_repeatsInRange {q : List Entry} (h : ∀ e ∈ q, RepeatsInRange e) (l : Locus) (f : Frame) :
    ∀ e ∈ mergeEntry l f q, RepeatsInRange e := by
  refine List.forall_mem_map.2 fun e he => ?_
  obtain ⟨least, most⟩ := h e he
  split_ifs
  · exact ⟨Nat.le_min.2 ⟨by decide, Nat.le_add_left 1 _⟩, Nat.min_le_left _ _⟩
  · exact ⟨least, most⟩

/-! ### The engine's operations -/

variable (d : Device)

/-- The settle of an entry that stands in range. -/
theorem settle_countersKept {e : Entry} (he : RepeatsInRange e) : EngineKept CountersInv d (settle e d) :=
  fun ⟨queue, table⟩ => ⟨by rwa [settle_queue], settle_recordsInRange table he.2⟩

theorem foldl_settle_countersKept {es : List Entry} (h : ∀ e ∈ es, RepeatsInRange e) :
    EngineKept CountersInv d (es.foldl (fun x e => settle e x) d) := by
  induction es generalizing d with
  | nil => exact .refl d
  | cons e es ih =>
    obtain ⟨first, rest⟩ := List.forall_mem_cons.1 h
    exact (settle_countersKept d first).trans (ih _ rest)

theorem settleDue_countersKept : EngineKept CountersInv d (settleDue d) := by
  rintro ⟨queue, table⟩
  rw [settleDue_eq]
  exact foldl_settle_countersKept _ (fun e he => queue e (List.mem_of_mem_filter he))
    ⟨fun e he => queue e (List.mem_of_mem_filter he), table⟩

theorem earlySettle_countersKept : EngineKept CountersInv d (earlySettle d) := by
  rintro ⟨queue, table⟩
  cases hq : d.engine.queue with
  | nil => rw [earlySettle_nil d hq]; exact ⟨queue, table⟩
  | cons e rest =>
    rw [hq] at queue
    obtain ⟨head, tail⟩ := List.forall_mem_cons.1 queue
    rw [earlySettle_cons d hq]
    exact settle_countersKept (setQueue rest d) head ⟨tail, table⟩

/-- A new entry stands for one occurrence (R116). -/
theorem enqueue_countersKept (l : Locus) (f : Frame) : EngineKept CountersInv d (enqueue l f d) :=
  fun ⟨queue, table⟩ => ⟨insertEntry_repeatsInRange ⟨Nat.le_refl 1, (by decide : 1 ≤ 255)⟩ queue, table⟩

theorem queueEvent_countersKept (l : Locus) (f : Frame) : EngineKept CountersInv d (queueEvent l f d) := by
  have merged : EngineKept CountersInv d (setQueue (mergeEntry l f d.engine.queue) d) :=
    fun ⟨queue, table⟩ => ⟨mergeEntry_repeatsInRange queue l f, table⟩
  exact .ite merged
    (.ite ((earlySettle_countersKept d).trans (enqueue_countersKept _ l f)) (enqueue_countersKept d l f))

theorem takeEvent_countersKept (l : Locus) (f : Frame) : EngineKept CountersInv d (takeEvent l f d) := by
  intro inv
  rw [takeEvent_eq, tallyEvent_eq]
  exact queueEvent_countersKept d l f inv

/-- Counters and repeat counts of the engine, kept by its own operations. -/
theorem countersInv_kept : KeptByEngine CountersInv where
  cold := ⟨nofun, nofun⟩
  takeEvent l f d := takeEvent_countersKept d l f
  opportunity l d := fun ⟨queue, table⟩ =>
    ⟨queue, RecordsInRange.mapRecord table l fun hr => creditRecord_recordInv hr⟩
  settleDue := settleDue_countersKept
  tallyShift _ inv := inv
  decayTable d := fun ⟨queue, table⟩ => ⟨queue, RecordsInRange.map table fun hr => decayRecord_recordInv hr⟩
  clearTable _ _ := ⟨nofun, nofun⟩
  setPin serial pinned d := fun ⟨queue, table⟩ =>
    ⟨queue, RecordsInRange.map table fun {r} hr => by split_ifs <;> exact hr⟩
  restarted g := fun ⟨_, table⟩ => ⟨nofun, table⟩

end Sys2Proof.Machine

namespace Sys2Proof.Proofs

open Sys2Proof.Machine Sys2Proof.Safety

/-- Settles O52: a score halves the counters before it could pass their limit, and of all commands the engine's own
operations alone reach them. -/
theorem stepKeepsRecordCounters : Obligations.StepKeepsRecordCounters :=
  fun _ _ inv next => step_kept (keptByParts_of_engine countersInv_kept) inv next

end Sys2Proof.Proofs
end


section
/-! CLEAR-TABLE, PIN and UNPIN (R133, R137, R187, R188): the record of a serial, and what becomes of the table. -/

namespace Sys2Proof.Machine

open Sys2Proof.Safety

/-! ### An item with room for its reply (R181) -/

/-- With room, an item of the right length leaves what its command leaves, and the command's answer is queued. -/
theorem next_handleItem {s : State} (room : hasRoom s) {kind seq : Byte} {ok : Bool}
    {body : Device → Device × Answer} {d : Device} {a : Answer} (length : ok = true) (run : body s.toDevice = (d, a)) :
    (Host.Outcome.next { s with toDevice := handleItem kind seq ok body s.toDevice } :
      Host.Outcome State Fault Refusal) =
      .next (answered { s with toDevice := d } kind seq a.reason a.more a.data) := by
  rw [length, handleItem_executed _ _ _ _ room, run]
  exact congrArg Host.Outcome.next (offerReply_answered { s with toDevice := d } kind seq a)

theorem lengthIs_of_eq {n : Nat} {args : List Byte} (h : args.length = n) : lengthIs n args = true := by
  simp [lengthIs, h]

section

variable {s : State} (room : hasRoom s) (seq : Byte) {d : Device} {reason : Reason}

include room

theorem exec_clearTable (run : bodyClearTable s.toDevice = (d, { reason := reason })) :
    exec (.clearTable seq []) s = .next (answeredBare { s with toDevice := d } 0x0B seq reason) :=
  next_handleItem room rfl run

variable {args : List Byte} (length : args.length = 4)

include length

theorem exec_pin (run : bodyPin args s.toDevice = (d, { reason := reason })) :
    exec (.pin seq args) s = .next (answeredBare { s with toDevice := d } 0x0C seq reason) :=
  next_handleItem room (lengthIs_of_eq length) run

theorem exec_unpin (run : bodyUnpin args s.toDevice = (d, { reason := reason })) :
    exec (.unpin seq args) s = .next (answeredBare { s with toDevice := d } 0x0D seq reason) :=
  next_handleItem room (lengthIs_of_eq length) run

end

/-! ### The record of a serial (R133) -/

section

variable {table : List SuspectRecord} {serial : Nat}

theorem recordOf_eq_none (h : ∀ r ∈ table, r.serial ≠ serial) : recordOf serial table = none :=
  List.find?_eq_none.2 fun r hr => by simpa using h r hr

variable {before after : List SuspectRecord} {r : SuspectRecord}

/-- A record stands once in a table whose serials rise. -/
theorem exists_split_of_rising (rising : table.Pairwise fun a b => a.locus ≠ b.locus ∧ a.serial < b.serial)
    (mem : r ∈ table) : ∃ before after, table = before ++ [r] ++ after ∧
      ∀ x ∈ before ++ after, x.serial ≠ r.serial := by
  obtain ⟨before, after, rfl⟩ := List.append_of_mem mem
  obtain ⟨-, later, earlier⟩ := List.pairwise_append.1 rising
  refine ⟨before, after, (List.append_cons ..), fun x hx => ?_⟩
  rcases List.mem_append.1 hx with front | back
  · exact (earlier x front r List.mem_cons_self).2.ne
  · exact ((List.pairwise_cons.1 later).1 x back).2.ne'

theorem recordOf_split (others : ∀ x ∈ before ++ after, x.serial ≠ r.serial) :
    recordOf r.serial (before ++ [r] ++ after) = some r := by
  have front : before.find? (fun x => decide (x.serial = r.serial)) = none :=
    recordOf_eq_none fun x hx => others x (List.mem_append_left _ hx)
  rw [recordOf, List.append_assoc, List.find?_append, front]
  simp

/-- The pin of one record changes; every other stands (R133). -/
theorem setPin_split {d : Device} (pinned : Bool) (split : d.engine.table = before ++ [r] ++ after)
    (others : ∀ x ∈ before ++ after, x.serial ≠ r.serial) : setPin r.serial pinned d =
      setEngine { d.engine with table := before ++ [{ r with pinned := pinned }] ++ after } d := by
  have stand : ∀ q : List SuspectRecord, (∀ x ∈ q, x.serial ≠ r.serial) →
      q.map (fun x => if x.serial = r.serial then { x with pinned := pinned } else x) = q := fun q h =>
    (List.map_congr_left fun x hx => if_neg (h x hx)).trans (List.map_id q)
  have front := stand before fun x hx => others x (List.mem_append_left _ hx)
  have back := stand after fun x hx => others x (List.mem_append_right _ hx)
  rw [setPin, split, List.map_append, List.map_append, front, back, List.map_singleton, if_pos rfl]

end

theorem pinnedCount_eq (table : List SuspectRecord) :
    pinnedCount table = (table.filter fun x => x.pinned).length := List.countP_eq_length_filter

/-! ### The tests of PIN and UNPIN (R133, R188) -/

section

variable {d : Device} {args : List Byte}

theorem bodyPin_of_none (missing : recordOf (nat32 args 0) d.engine.table = none) :
    bodyPin args d = (d, { reason := .range }) := by
  rw [bodyPin, missing]
  rfl

theorem bodyUnpin_of_none (missing : recordOf (nat32 args 0) d.engine.table = none) :
    bodyUnpin args d = (d, { reason := .range }) := by
  rw [bodyUnpin, missing]
  rfl

variable {r : SuspectRecord} (found : recordOf (nat32 args 0) d.engine.table = some r)

include found

theorem bodyPin_of_pinned (pinned : r.pinned = true) : bodyPin args d = (d, { reason := .accepted }) := by
  rw [bodyPin, found]
  exact if_pos pinned

theorem bodyPin_of_full (unpinned : r.pinned = false) (full : 8 ≤ pinnedCount d.engine.table) :
    bodyPin args d = (d, { reason := .range }) := by
  rw [bodyPin, found]
  exact (if_neg (by simp [unpinned])).trans (if_pos full)

theorem bodyPin_of_room (unpinned : r.pinned = false) (room : pinnedCount d.engine.table < 8) :
    bodyPin args d = (setPin (nat32 args 0) true d, { reason := .accepted }) := by
  rw [bodyPin, found]
  exact (if_neg (by simp [unpinned])).trans (if_neg (Nat.not_le.2 room))

theorem bodyUnpin_of_some : bodyUnpin args d = (setPin (nat32 args 0) false d, { reason := .accepted }) := by
  rw [bodyUnpin, found]

end

end Sys2Proof.Machine

namespace Sys2Proof.Proofs

open Sys2Proof.Machine Sys2Proof.Safety

/-- Settles O37: a clear puts a cold engine with the old tallies in place; in a table of rising serials a serial names
one record, and the pin of that one is tested and set. -/
theorem tableIsClearedAndPinned : Obligations.TableIsClearedAndPinned := by
  refine ⟨fun s seq room => ⟨fun active => ?busy, fun idle => ?cleared⟩, fun s seq args room length inv => ?pins⟩
  case busy => exact exec_clearTable room seq (if_pos active)
  case cleared =>
    have pool : ∀ k : Fin 8, Engine.cold.pool[k] = .free := by simp [Engine.cold]
    exact ⟨answeredBare { s with toDevice := clearTable s.toDevice } 0x0B seq .accepted,
      exec_clearTable room seq (if_neg (by simp [idle])), rfl, rfl, rfl, pool, rfl, rfl, rfl, rfl, rfl, rfl, rfl⟩
  case pins =>
    obtain ⟨-, -, -, rising, -, -⟩ := inv
    refine ⟨fun missing => ?missing, fun r mem named => ?found⟩
    case missing =>
      have none := recordOf_eq_none missing
      exact ⟨exec_pin room seq length (bodyPin_of_none none), exec_unpin room seq length (bodyUnpin_of_none none)⟩
    case found =>
      obtain ⟨before, after, split, others⟩ := exists_split_of_rising rising mem
      have found : recordOf (nat32 args 0) s.engine.table = some r := by
        rw [split, ← named]
        exact recordOf_split others
      have set : ∀ pinned, setPin (nat32 args 0) pinned s.toDevice =
          setEngine { s.engine with table := before ++ [{ r with pinned := pinned }] ++ after } s.toDevice :=
        fun pinned => named ▸ setPin_split pinned split others
      rw [← pinnedCount_eq]
      refine ⟨fun pinned => ?_, fun unpinned full => ?_, fun unpinned few => ⟨before, after, split, ?_⟩,
        before, after, split, ?_⟩
      · exact exec_pin room seq length (bodyPin_of_pinned found pinned)
      · exact exec_pin room seq length (bodyPin_of_full found unpinned full)
      · exact exec_pin room seq length ((bodyPin_of_room found unpinned few).trans (by rw [set]))
      · exact exec_unpin room seq length ((bodyUnpin_of_some found).trans (by rw [set]))

end Sys2Proof.Proofs
end


section
/-! Fields of readouts (R193, R201): a field of one, two or four bytes, read back where a layout places it, is the number
sent, held to the field's width. -/

namespace Sys2Proof.Machine

section

variable {b rest : List Byte} {k n : Nat}

theorem toNat_byteOf_mod (n : Nat) : (byteOf n).toNat = n % 256 := BitVec.toNat_ofNat n 8

theorem byteAt_of_drop {x : Byte} (h : b.drop k = x :: rest) : byteAt b k = x := by
  have head : b[k]? = some x := by rw [← List.head?_drop, h, List.head?_cons]
  rw [byteAt, List.getD_eq_getElem?_getD, head, Option.getD_some]

theorem drop_succ_of_drop {x : Byte} (h : b.drop k = x :: rest) : b.drop (k + 1) = rest := by
  rw [← List.drop_drop, h]
  rfl

/-- A one-byte field (R201). -/
theorem nat8_of_drop (h : b.drop k = byteOf n :: rest) : nat8 b k = n % 256 := by
  rw [nat8, byteAt_of_drop h, toNat_byteOf_mod]

theorem nat8_of_lt (h : b.drop k = byteOf n :: rest) (small : n < 256) : nat8 b k = n :=
  (nat8_of_drop h).trans (Nat.mod_eq_of_lt small)

/-- A two-byte field, high byte first (R193, R201). -/
theorem nat16_of_drop (h : b.drop k = be16 n ++ rest) : nat16 b k = n % 65536 := by
  have low : b.drop (k + 1) = byteOf n :: rest := drop_succ_of_drop h
  rw [nat16, nat8_of_drop h, nat8_of_drop low]
  omega

/-- A four-byte field, high byte first (R193, R201). -/
theorem nat32_of_drop (h : b.drop k = be32 n ++ rest) : nat32 b k = n % 4294967296 := by
  have high : b.drop k = be16 (n / 65536) ++ (be16 n ++ rest) := by
    rw [h, be32, be16, Nat.div_div_eq_div_mul]
    rfl
  have low : b.drop (k + 2) = be16 n ++ rest := drop_succ_of_drop (drop_succ_of_drop high)
  rw [nat32, nat16_of_drop high, nat16_of_drop low]
  omega

/-- A four-byte field that carries a frame number (R201). -/
theorem nat32_of_drop_frame {f : Frame} (h : b.drop k = be32 f.toNat ++ rest) : nat32 b k = f.toNat := by
  rw [nat32_of_drop h, Nat.mod_eq_of_lt f.isLt]

/-- A signed two-byte field, in two's complement (R193, R201). -/
theorem nat16_of_drop_signed {z : Int} (h : b.drop k = be16Signed z ++ rest) : nat16 b k = (z % 65536).toNat := by
  rw [nat16_of_drop h, Nat.mod_eq_of_lt (BitVec.ofInt 16 z).isLt, BitVec.toNat_ofInt]
  rfl

end

/-! ### Fields of one length after another -/

section

variable {α β : Type} {f : α → List β} {m : Nat} (hf : ∀ a, (f a).length = m)

include hf

theorem length_flatMap_of_length (l : List α) : (l.flatMap f).length = m * l.length := by
  induction l with
  | nil => rfl
  | cons a l ih => rw [List.flatMap_cons, List.length_append, hf, ih, List.length_cons, Nat.mul_succ, Nat.add_comm]

theorem drop_flatMap_of_length {l : List α} {k : Nat} {a : α} (h : l[k]? = some a) :
    (l.flatMap f).drop (m * k) = f a ++ (l.drop (k + 1)).flatMap f := by
  obtain ⟨inside, at_k⟩ := List.getElem?_eq_some_iff.1 h
  have before : ((l.take k).flatMap f).length = m * k := by
    rw [length_flatMap_of_length hf, List.length_take, Nat.min_eq_left inside.le]
  have split : l = l.take k ++ a :: l.drop (k + 1) := by
    rw [← at_k, List.cons_getElem_drop_succ, List.take_append_drop]
  conv_lhs => rw [split, List.flatMap_append, List.flatMap_cons]
  exact List.drop_left' before

end

theorem length_flatMap_be16 {n : Nat} (v : Vector Nat n) : (v.toList.flatMap be16).length = 2 * n := by
  rw [length_flatMap_of_length (m := 2) fun _ => rfl, Vector.length_toList]

/-- A run of two-byte fields at a place of a layout (R201): rail voltages and lane positions. -/
theorem nat16_of_drop_vector {b rest : List Byte} {k n : Nat} {v : Vector Nat n}
    (h : b.drop k = v.toList.flatMap be16 ++ rest) (i : Fin n) : nat16 b (k + 2 * i.val) = v[i] % 65536 := by
  have found : v.toList[i.val]? = some v[i] := by simp
  have inside : 2 * i.val ≤ (v.toList.flatMap be16).length := by
    rw [length_flatMap_be16]
    omega
  refine nat16_of_drop (rest := (v.toList.drop (i.val + 1)).flatMap be16 ++ rest) ?_
  rw [← List.drop_drop, h, List.drop_append_of_le_length inside, drop_flatMap_of_length (m := 2) (fun _ => rfl) found,
    List.append_assoc]

end Sys2Proof.Machine
end


section
/-! QUERY-TABLE and QUERY-SNAPSHOT (R141, R142, R191, R201): whole readouts, as many as fit the reply, and the fields of
each. -/

namespace Sys2Proof.Machine

open Sys2Proof.Safety

/-! ### The record readout (R131, R201) -/

theorem classCode_recordClass (r : SuspectRecord) :
    classCode (recordClass r) = if r.latch then 2 else if 256 ≤ r.score then 1 else 0 := by
  unfold recordClass Config.suspectScore
  split_ifs <;> rfl

theorem not_solid_iff (r : SuspectRecord) : (!solid r) = decide (16 * r.hits < 15 * r.opportunities) := by
  simp [solid, ← decide_not]

/-- The kind, the class and the four marks of byte 5 share no bit. -/
theorem toNat_kindClassMarks (kind : Fin 4) (cls : Fin 3) (b4 b5 b6 b7 : Bool) :
    (byteOf (kind.val + 4 * cls.val) ||| bitIf b4 4 ||| bitIf b5 5 ||| bitIf b6 6 ||| bitIf b7 7).toNat =
      kind.val + 4 * cls.val + 16 * (if b4 then 1 else 0) + 32 * (if b5 then 1 else 0) +
        64 * (if b6 then 1 else 0) + 128 * (if b7 then 1 else 0) := by
  revert kind cls b4 b5 b6 b7
  decide

theorem kindCode_lt (l : Locus) : kindCode l < 4 := by
  cases l <;> simp [kindCode]

theorem classCode_lt (c : RecordClass) : classCode c < 3 := by cases c <;> decide

theorem toNat_recordFlags (r : SuspectRecord) : (recordFlags r).toNat =
    kindCode r.locus + 4 * (if r.latch then 2 else if 256 ≤ r.score then 1 else 0) +
      16 * (if 16 * r.hits < 15 * r.opportunities then 1 else 0) + 32 * (if r.latch then 1 else 0) +
      64 * (if r.pinned then 1 else 0) + 128 * (if r.snapshot.isSome then 1 else 0) := by
  have marks := toNat_kindClassMarks ⟨_, kindCode_lt r.locus⟩ ⟨_, classCode_lt (recordClass r)⟩ (!solid r) r.latch
    r.pinned r.snapshot.isSome
  dsimp only at marks
  rw [recordFlags, marks, classCode_recordClass, not_solid_iff]
  simp only [decide_eq_true_eq]

/-- A locus takes three bytes, whatever its kind (R201). -/
theorem exists_locusBytes_eq (l : Locus) : ∃ x y z : Byte, locusBytes l = [x, y, z] := by
  cases l <;> exact ⟨_, _, _, rfl⟩

theorem length_recordReadout (index : Nat) (r : SuspectRecord) : (recordReadout index r).length = 28 := by
  obtain ⟨x, y, z, three⟩ := exists_locusBytes_eq r.locus
  rw [recordReadout, three]
  rfl

/-- Byte for byte the record readout is the layout of R201. -/
theorem recordFields_recordReadout (index : Nat) (r : SuspectRecord) :
    recordFields index r (recordReadout index r) := by
  have length := length_recordReadout index r
  have flags : nat8 (recordReadout index r) 5 = (recordFlags r).toNat := rfl
  rw [toNat_recordFlags] at flags
  obtain ⟨serial, locus⟩ := r
  refine ⟨length, nat8_of_drop rfl, nat32_of_drop rfl, ?flags, ?locus, ?rest⟩
  case flags => cases locus <;> exact flags
  case locus =>
    cases locus with
    | strobe lane pin tag =>
      exact ⟨nat8_of_lt rfl (by omega), nat8_of_lt rfl (by omega), rfl⟩
    | signature lane tag => exact ⟨nat8_of_lt rfl (by omega), rfl, rfl⟩
    | glitch rail => exact ⟨nat8_of_lt rfl (by omega), rfl, rfl⟩
    | trip rail => exact ⟨nat8_of_lt rfl (by omega), rfl, rfl⟩
  case rest =>
    obtain ⟨x, y, z, three⟩ := exists_locusBytes_eq locus
    rw [recordReadout, three]
    exact ⟨nat32_of_drop_frame rfl, nat32_of_drop_frame rfl, nat8_of_drop rfl, nat16_of_drop rfl, nat16_of_drop rfl,
      nat16_of_drop rfl, nat8_of_drop rfl, nat8_of_drop rfl, nat8_of_drop rfl, rfl⟩

/-! ### The snapshot readout (R142, R201) -/

theorem length_snapshotReadout (serial : Nat) (k : Fin 8) (c : Conditions) :
    (snapshotReadout serial k c).length = 30 := by
  simp [snapshotReadout, length_flatMap_be16, be32, be16, be16Signed, -List.length_flatMap]

/-- Byte for byte the snapshot readout is the layout of R201. -/
theorem snapshotFields_snapshotReadout (serial : Nat) (k : Fin 8) (c : Conditions) :
    snapshotFields serial k c (snapshotReadout serial k c) := by
  have rails : (snapshotReadout serial k c).drop 10 = c.rails.toList.flatMap be16 ++ (be16 c.current ++
      (be16Signed c.temperature ++ (c.positions.toList.flatMap be16 ++ []))) := by
    simp [snapshotReadout, be32]
  have board : (snapshotReadout serial k c).drop 18 = be16 c.current ++
      (be16Signed c.temperature ++ (c.positions.toList.flatMap be16 ++ [])) := by
    rw [show 18 = 10 + 8 from rfl, ← List.drop_drop, rails, List.drop_left' (length_flatMap_be16 c.rails)]
  have temperature : (snapshotReadout serial k c).drop 20 =
      be16Signed c.temperature ++ (c.positions.toList.flatMap be16 ++ []) :=
    drop_succ_of_drop (drop_succ_of_drop board)
  have positions : (snapshotReadout serial k c).drop 22 = c.positions.toList.flatMap be16 ++ [] :=
    drop_succ_of_drop (drop_succ_of_drop temperature)
  exact ⟨length_snapshotReadout serial k c, nat32_of_drop rfl, rfl, nat8_of_lt rfl (by omega), nat32_of_drop_frame rfl,
    nat16_of_drop_vector rails, nat16_of_drop board, nat16_of_drop_signed temperature, nat16_of_drop_vector positions⟩

/-! ### The records of a reply (R141, R191) -/

section

theorem length_indexedReadout (p : SuspectRecord × Nat) : (recordReadout p.2 p.1).length = 28 :=
  length_recordReadout p.2 p.1

variable (table : List SuspectRecord) (first fit : Nat)

theorem length_recordsFrom :
    (recordsFrom table first fit).length = 28 * min fit (table.drop first).length := by
  rw [recordsFrom, length_flatMap_of_length length_indexedReadout, List.length_zipIdx, List.length_take]

/-- The k-th readout of a reply is that of the k-th record from the start index onward. -/
theorem recordsFrom_readout {k : Nat} (hk : k < fit) {r : SuspectRecord} (found : (table.drop first)[k]? = some r) :
    ((recordsFrom table first fit).drop (28 * k)).take 28 = recordReadout (first + k) r := by
  have at_k : (((table.drop first).take fit).zipIdx first)[k]? = some (r, first + k) := by
    rw [List.getElem?_zipIdx, List.getElem?_take_of_lt hk, found]
    rfl
  rw [recordsFrom, drop_flatMap_of_length length_indexedReadout at_k]
  exact List.take_left' (length_recordReadout _ r)

end

/-! ### The two queries, by what they find -/

section

variable {s : State} (room : hasRoom s) (seq : Byte) {i : Byte} {a : Answer}

include room

theorem exec_queryTable (run : bodyQueryTable [i] s.toDevice = (s.toDevice, a)) :
    exec (.queryTable seq [i]) s = .next (answered s 0x0F seq a.reason a.more a.data) :=
  next_handleItem room rfl run

theorem exec_querySnapshot (run : bodyQuerySnapshot [i] s.toDevice = (s.toDevice, a)) :
    exec (.querySnapshot seq [i]) s = .next (answered s 0x10 seq a.reason a.more a.data) :=
  next_handleItem room rfl run

/-- A whole readout is answered where it fits the reply limit, and is refused RANGE otherwise (R191). -/
theorem exec_querySnapshot_readout {r : SuspectRecord} (found : s.engine.table[i.toNat]? = some r) :
    exec (.querySnapshot seq [i]) s =
      .next (if (snapshotOf s.engine r).length ≤ s.bench.limit - 6
        then answered s 0x10 seq .accepted false (snapshotOf s.engine r) else answeredBare s 0x10 seq .range) := by
  have run : bodyQuerySnapshot [i] s.toDevice = wholeReadout (snapshotOf s.engine r) s.toDevice := by
    unfold bodyQuerySnapshot
    rw [show nat8 [i] 0 = i.toNat from rfl, found]
  unfold wholeReadout dataRoom at run
  split_ifs at run ⊢
  · exact exec_querySnapshot room seq run
  · exact exec_querySnapshot room seq run

end

section

variable {d : Device} {i : Byte}

theorem bodyQueryTable_of_none (none : d.engine.table.drop i.toNat = []) :
    bodyQueryTable [i] d = (d, { reason := .accepted }) :=
  if_pos (List.drop_eq_nil_iff.1 none)

variable (some : d.engine.table.drop i.toNat ≠ [])

include some

theorem bodyQueryTable_of_narrow (narrow : (d.bench.limit - 6) / 28 = 0) :
    bodyQueryTable [i] d = (d, { reason := .range }) :=
  (if_neg (mt List.drop_eq_nil_iff.2 some)).trans (if_pos narrow)

theorem bodyQueryTable_of_fit (fit : 0 < (d.bench.limit - 6) / 28) : bodyQueryTable [i] d =
    (d, { reason := .accepted,
          more := decide ((d.bench.limit - 6) / 28 < (d.engine.table.drop i.toNat).length),
          data := recordsFrom d.engine.table i.toNat ((d.bench.limit - 6) / 28) }) := by
  have stand : ¬d.engine.table.length ≤ i.toNat := mt List.drop_eq_nil_iff.2 some
  have more : i.toNat + (d.bench.limit - 6) / 28 < d.engine.table.length ↔
      (d.bench.limit - 6) / 28 < (d.engine.table.drop i.toNat).length := by
    rw [List.length_drop]
    omega
  rw [← decide_eq_decide.2 more]
  exact (if_neg stand).trans (if_neg fit.ne')

end

end Sys2Proof.Machine

namespace Sys2Proof.Proofs

open Sys2Proof.Machine Sys2Proof.Safety

/-- Settles O39: the readouts have one length each, so that their places in a reply, and whether they fit one, follow by
counting. -/
theorem tableQueriesCarryWholeReadouts : Obligations.TableQueriesCarryWholeReadouts := by
  refine ⟨fun s seq first room => ⟨fun none => ?none, fun some narrow => ?narrow, fun some fit => ?records⟩,
    fun s seq index room => ⟨fun beyond => ?beyond, fun r found => ⟨fun bare => ?bare, fun k c held attached => ?held⟩⟩⟩
  case none => exact exec_queryTable room seq (bodyQueryTable_of_none none)
  case narrow => exact exec_queryTable room seq (bodyQueryTable_of_narrow some narrow)
  case records =>
    refine ⟨_, exec_queryTable room seq (bodyQueryTable_of_fit some fit), length_recordsFrom _ _ _,
      fun k r inside found => ?_⟩
    rw [recordsFrom_readout _ _ _ inside found]
    exact recordFields_recordReadout _ r
  case beyond =>
    refine exec_querySnapshot room seq (a := { reason := .range }) ?_
    unfold bodyQuerySnapshot
    rw [show nat8 [index] 0 = index.toNat from rfl, beyond]
    rfl
  case bare =>
    have readout : snapshotOf s.engine r = be32 r.serial ++ [0] := by rw [snapshotOf, bare, noSnapshotReadout]
    have fits : (be32 r.serial ++ [0]).length ≤ s.bench.limit - 6 ↔ 11 ≤ s.bench.limit := by
      have five : (be32 r.serial ++ [0]).length = 5 := rfl
      omega
    rw [exec_querySnapshot_readout room seq found, readout, if_congr fits rfl rfl]
  case held =>
    have readout : snapshotOf s.engine r = snapshotReadout r.serial k c := by
      simp only [snapshotOf, held, attached]
    have fits : (snapshotReadout r.serial k c).length ≤ s.bench.limit - 6 ↔ 36 ≤ s.bench.limit := by
      rw [length_snapshotReadout]
      omega
    refine ⟨_, snapshotFields_snapshotReadout r.serial k c, ?_⟩
    rw [exec_querySnapshot_readout room seq found, readout, if_congr fits rfl rfl]

end Sys2Proof.Proofs
end


section
/-! Occurrences of causes (R146 to R149): the record that an occurrence leaves, and the notice that it queues. -/

namespace Sys2Proof.Machine

open Sys2Proof.Safety

/-- A count that is 0 exactly while its flag is clear, and at most 255 (R146). -/
def CountAgrees (r : CauseRecord) : Prop := (r.count = 0 ↔ r.flag = false) ∧ r.count ≤ 255

theorem happened_countAgrees {r : CauseRecord} (h : CountAgrees r) : CountAgrees (happened r) := by
  obtain ⟨zero, most⟩ := h
  cases flag : r.flag
  · simp [CountAgrees, happened, flag]
  · have raised : (happened r).count = min 255 (r.count + 1) := by simp [happened, flag]
    have set : (happened r).flag = true := rfl
    exact ⟨by simp [raised, set], by omega⟩

/-- An occurrence leaves a cause unit whose counts agree with the flags where it finds one so (R146). -/
theorem occurred_causeInv {u u' : CauseUnit} {i : Fin 15} (h : occurred u u' i) (inv : CauseInv u) : CauseInv u' := by
  obtain ⟨-, others, own⟩ := h
  intro j
  by_cases same : j = i
  · subst same
    rw [own]
    exact happened_countAgrees (inv j)
  · rw [others j same]
    exact inv j

section

variable (c : Cause) (d : Device)

/-- The notice queue after an occurrence (R146 to R149). -/
theorem raiseCause_notices : (raiseCause c d).link.notices =
    if d.causes.records[c.index].flag = false ∧ passesTest (raiseCause c d).causes c.index = true ∧
        d.link.mode ≠ .listenOnly then d.link.notices ||| causeSingle c.index else d.link.notices := by
  rw [raiseCause_causes]
  unfold raiseCause offer
  dsimp only
  split_ifs <;> simp_all

theorem raiseCause_notices_of_set (set : d.causes.records[c.index].flag = true) :
    (raiseCause c d).link.notices = d.link.notices := by
  rw [raiseCause_notices, if_neg fun h => Bool.false_ne_true (h.1.symm.trans set)]

/-- The notice of another cause stands as it was. -/
theorem getLsbD_raiseCause_notices_of_ne {j : Fin 15} (h : j ≠ c.index) :
    (raiseCause c d).link.notices.getLsbD (j.val + 1) = d.link.notices.getLsbD (j.val + 1) := by
  rw [raiseCause_notices]
  split_ifs
  · rw [BitVec.getLsbD_or, getLsbD_causeSingle, decide_eq_false h, Bool.or_false]
  · rfl

/-- After a first occurrence the notice test is a test of the level alone: the flag is set, the notified mark clear
(R146, R147). -/
theorem passesTest_raiseCause_of_clear (clear : d.causes.records[c.index].flag = false) :
    passesTest (raiseCause c d).causes c.index =
      decide (1 ≤ d.causes.records[c.index].level ∧ d.causes.floor ≤ d.causes.records[c.index].level) := by
  obtain ⟨floor, -, own⟩ := occurred_raiseCause d c
  rw [passesTest_iff, own, floor]
  simp only [happened, clear, Bool.false_and, true_and]

theorem getLsbD_raiseCause_notices_of_clear (clear : d.causes.records[c.index].flag = false) :
    (raiseCause c d).link.notices.getLsbD (c.index.val + 1) = (d.link.notices.getLsbD (c.index.val + 1) ||
      decide (d.link.mode ≠ .listenOnly ∧ 1 ≤ d.causes.records[c.index].level ∧
        d.causes.floor ≤ d.causes.records[c.index].level)) := by
  simp only [raiseCause_notices, passesTest_raiseCause_of_clear c d clear, decide_eq_true_eq]
  split_ifs with queued
  · obtain ⟨-, levels, talks⟩ := queued
    rw [BitVec.getLsbD_or, getLsbD_causeSingle, decide_eq_true rfl, decide_eq_true ⟨talks, levels⟩]
  · rw [decide_eq_false fun h => queued ⟨clear, h.2, h.1⟩, Bool.or_false]

end

end Sys2Proof.Machine

namespace Sys2Proof.Proofs

open Sys2Proof.Machine Sys2Proof.Safety

/-- Settles O49: the record is the one of R146 for a clear and for a set flag, and only the first kind reaches the
notice test. -/
theorem occurrenceSetsOrCounts : Obligations.OccurrenceSetsOrCounts := fun cause d =>
  ⟨raiseCause_eq d cause, occurred_raiseCause d cause, occurred_causeInv (occurred_raiseCause d cause),
    raiseCause_notices_of_set cause d, fun _ => getLsbD_raiseCause_notices_of_ne cause d,
    getLsbD_raiseCause_notices_of_clear cause d⟩

end Sys2Proof.Proofs
end


section
/-! The cause unit across every step (R144, R146, R153, R157, R160): counts beside their flags, and the notice floor
and the cause levels, in force and staged. First the operations on the unit and on the settings, then the blocks' own
work, which reaches both through occurrences of causes and the staged set coming into force. -/

namespace Sys2Proof.Machine

open Sys2Proof.Safety

/-! ### Levels and settings in range (R144, R157, R158) -/

/-- A notice floor and the cause levels in force, from 0 to 7. -/
def UnitInRange (u : CauseUnit) : Prop := u.floor ≤ 7 ∧ ∀ i : Fin 15, u.records[i].level ≤ 7

/-- The notice floor and the cause levels among named settings, from 0 to 7 where they are present. -/
def NamesInRange (n : NamedSettings) : Prop := n.floor.getD 0 ≤ 7 ∧ ∀ i : Fin 15, n.levels[i].getD 0 ≤ 7

theorem levelInv_iff (d : Device) : LevelInv d ↔ UnitInRange d.causes ∧ NamesInRange d.job.staged :=
  ⟨fun ⟨floor, staged, levels⟩ => ⟨⟨floor, fun i => (levels i).1⟩, staged, fun i => (levels i).2⟩,
    fun ⟨⟨floor, levels⟩, staged, names⟩ => ⟨floor, staged, fun i => ⟨levels i, names i⟩⟩⟩

theorem UnitInRange.of_levels {u u' : CauseUnit} (h : UnitInRange u) (floor : u'.floor = u.floor)
    (levels : ∀ i : Fin 15, u'.records[i].level = u.records[i].level) : UnitInRange u' :=
  ⟨floor ▸ h.1, fun i => levels i ▸ h.2 i⟩

/-- An occurrence changes no level and not the floor (R146). -/
theorem UnitInRange.of_occurred {u u' : CauseUnit} {i : Fin 15} (h : UnitInRange u) (o : occurred u u' i) :
    UnitInRange u' := by
  obtain ⟨floor, others, own⟩ := o
  refine h.of_levels floor fun j => ?_
  by_cases same : j = i
  · subst same
    rw [own]
    rfl
  · rw [others j same]

theorem getD_le_seven {o : Option Nat} {k : Nat} (h : o.getD 0 ≤ 7) (hk : k ≤ 7) : o.getD k ≤ 7 := by
  cases o with
  | none => exact hk
  | some v => exact h

theorem or_getD_le_seven {o p : Option Nat} (ho : o.getD 0 ≤ 7) (hp : p.getD 0 ≤ 7) : (o.or p).getD 0 ≤ 7 := by
  cases o with
  | none => exact hp
  | some v => exact ho

theorem none_namesInRange : NamesInRange NamedSettings.none := by
  unfold NamesInRange
  decide

theorem namedValue_le_seven (isNamed : Bool) (v : Nat) : (namedValue isNamed 0 7 v).1.getD 0 ≤ 7 := by
  cases isNamed
  · exact Nat.zero_le 7
  · exact Nat.max_le.2 ⟨Nat.zero_le 7, Nat.min_le_left 7 v⟩

/-- JOB-CAUSES clamps what it names to 7 (R158). -/
theorem causesArgs_namesInRange (args : List Byte) : NamesInRange (causesArgs args).1 := by
  refine ⟨namedValue_le_seven _ _, fun i => ?_⟩
  simp only [causesArgs, Fin.getElem_fin, Vector.getElem_ofFn]
  exact namedValue_le_seven _ _

theorem stage_namesInRange {n m : NamedSettings} (hn : NamesInRange n) (hm : NamesInRange m) :
    NamesInRange (stage n m) := by
  refine ⟨or_getD_le_seven hn.1 hm.1, fun i => ?_⟩
  simp only [stage, Fin.getElem_fin, Vector.getElem_ofFn]
  exact or_getD_le_seven (hn.2 i) (hm.2 i)

/-! ### Named settings in force in the cause unit (R152) -/

theorem mergeCauses_records (n : NamedSettings) (u : CauseUnit) (i : Fin 15) : (mergeCauses n u).records[i] =
    { u.records[i] with level := n.levels[i].getD u.records[i].level } := by
  simp [mergeCauses]

theorem namesNotices_eq_false {n : NamedSettings} (h : namesNotices n = false) :
    n.floor = none ∧ ∀ i : Fin 15, n.levels[i] = none := by
  simpa [namesNotices, allCauses] using h

theorem causeUnit_ext {u v : CauseUnit} (floor : u.floor = v.floor)
    (records : ∀ i : Fin 15, u.records[i] = v.records[i]) : u = v := by
  obtain ⟨us, f⟩ := u
  obtain ⟨vs, g⟩ := v
  congr
  exact Vector.ext fun i hi => records ⟨i, hi⟩

/-- Settings that name no floor and no level leave the cause unit. -/
theorem mergeCauses_of_unnamed {n : NamedSettings} (h : namesNotices n = false) (u : CauseUnit) :
    mergeCauses n u = u := by
  obtain ⟨floor, levels⟩ := namesNotices_eq_false h
  refine causeUnit_ext (by rw [mergeCauses, floor]; rfl) fun i => ?_
  rw [mergeCauses_records, levels]
  rfl

/-- The cause unit as named settings come into force (R152, R161). -/
theorem inForce_causes (n : NamedSettings) (d : Device) : (inForce n d).causes = mergeCauses n d.causes := by
  unfold inForce noticesInForce
  dsimp only
  split_ifs with named
  · rw [offerAll_eq, offer_causes]
    rfl
  · exact (mergeCauses_of_unnamed (by simpa using named) _).symm

theorem mergeCauses_inRange {n : NamedSettings} {u : CauseUnit} (hn : NamesInRange n) (hu : UnitInRange u) :
    UnitInRange (mergeCauses n u) := by
  refine ⟨getD_le_seven hn.1 hu.1, fun i => ?_⟩
  rw [mergeCauses_records]
  exact getD_le_seven (hn.2 i) (hu.2 i)

theorem mergeCauses_causeInv (n : NamedSettings) {u : CauseUnit} (h : CauseInv u) : CauseInv (mergeCauses n u) := by
  intro i
  rw [mergeCauses_records]
  exact h i

/-! ### Causes notified and cleared (R151, R153) -/

theorem notifyCauses_causeInv (m : CauseSet) {u : CauseUnit} (h : CauseInv u) : CauseInv (notifyCauses m u) := by
  intro i
  rw [notifyCauses_records]
  exact h i

theorem notifyCauses_inRange (m : CauseSet) {u : CauseUnit} (h : UnitInRange u) : UnitInRange (notifyCauses m u) :=
  h.of_levels (by rw [notifyCauses]) fun i => by rw [notifyCauses_records]

theorem clearedCauses_records (m : CauseSet) (u : CauseUnit) (i : Fin 15) : (clearedCauses m u).records[i] =
    if isQueued m i then clearedRecord u.records[i] else u.records[i] := by
  simp [clearedCauses]

theorem clearedCauses_causeInv (m : CauseSet) {u : CauseUnit} (h : CauseInv u) : CauseInv (clearedCauses m u) := by
  intro i
  rw [clearedCauses_records]
  split_ifs
  · exact ⟨⟨fun _ => rfl, fun _ => rfl⟩, Nat.zero_le 255⟩
  · exact h i

theorem clearedCauses_inRange (m : CauseSet) {u : CauseUnit} (h : UnitInRange u) :
    UnitInRange (clearedCauses m u) :=
  h.of_levels (by rw [clearedCauses]) fun i => by
    rw [clearedCauses_records]
    split_ifs <;> rfl

/-! ### Work that keeps the cause unit and the staged levels -/

/-- What the block holds of floors and levels and of the causes: the cause unit, and the staged set. -/
def causeState (d : Device) : CauseUnit × NamedSettings := (d.causes, d.job.staged)

/-- Between two devices counts stay beside their flags, and the floor and the levels in range. -/
structure CausesKept (d d' : Device) : Prop where
  counts : CauseInv d.causes → CauseInv d'.causes
  levels : LevelInv d → LevelInv d'

namespace CausesKept

theorem refl (d : Device) : CausesKept d d := ⟨id, id⟩

theorem trans {a b c : Device} (hab : CausesKept a b) (hbc : CausesKept b c) : CausesKept a c :=
  ⟨hbc.counts ∘ hab.counts, hbc.levels ∘ hab.levels⟩

theorem of_parts {d d' : Device} (causes : d'.causes = d.causes) (staged : d'.job.staged = d.job.staged) :
    CausesKept d d' := by
  refine ⟨fun inv => causes ▸ inv, fun inv => (levelInv_iff d').2 ?_⟩
  rw [causes, staged]
  exact (levelInv_iff d).1 inv

theorem of_same {d d' : Device} (same : causeState d' = causeState d) : CausesKept d d' :=
  of_parts (congrArg Prod.fst same) (congrArg Prod.snd same)

/-- Work from a device with the same cause unit and the same staged set. -/
theorem after_same {d x d' : Device} (kept : CausesKept x d') (same : causeState x = causeState d) :
    CausesKept d d' := (of_same same).trans kept

/-- Work that leaves the staged set. -/
theorem of_unit {d d' : Device} (staged : d'.job.staged = d.job.staged)
    (counts : CauseInv d.causes → CauseInv d'.causes) (levels : UnitInRange d.causes → UnitInRange d'.causes) :
    CausesKept d d' := by
  refine ⟨counts, fun inv => (levelInv_iff d').2 ?_⟩
  obtain ⟨inForce, names⟩ := (levelInv_iff d).1 inv
  exact ⟨levels inForce, staged ▸ names⟩

theorem ite {c : Prop} [Decidable c] {d a b : Device} (ha : CausesKept d a) (hb : CausesKept d b) :
    CausesKept d (if c then a else b) := by
  split_ifs
  · exact ha
  · exact hb

theorem foldl {α : Type} {f : Device → α → Device} (h : ∀ d a, CausesKept d (f d a)) (l : List α) (d : Device) :
    CausesKept d (l.foldl f d) := by
  induction l generalizing d with
  | nil => exact refl d
  | cons a l ih => exact (h d a).trans (ih _)

end CausesKept

section

variable (d : Device)

theorem raiseCause_causesKept (c : Cause) : CausesKept d (raiseCause c d) :=
  .of_unit (by rw [raiseCause_job]) (occurred_causeInv (occurred_raiseCause d c))
    fun h => h.of_occurred (occurred_raiseCause d c)

theorem offerAll_causesKept : CausesKept d (offerAll d) := .of_parts (offer_causes d _) (by rw [offerAll_eq, offer_job])

/-- Accepted settings in force at once (R160, R161). -/
theorem inForce_causesKept {n : NamedSettings} (hn : NamesInRange n) : CausesKept d (inForce n d) := by
  refine .of_unit (by rw [inForce_job]) ?_ ?_ <;> rw [inForce_causes]
  · exact mergeCauses_causeInv n
  · exact mergeCauses_inRange hn

/-- The staged set in force, and emptied (R161): its levels were in range as long as they were staged. -/
theorem stagedInForce_causesKept : CausesKept d (stagedInForce d) := by
  have emptied : (stagedInForce d).job.staged = NamedSettings.none := by rw [stagedInForce, inForce_job]; rfl
  have merged : (stagedInForce d).causes = mergeCauses d.job.staged d.causes := inForce_causes _ _
  refine ⟨fun inv => ?_, fun inv => (levelInv_iff _).2 ?_⟩
  · rw [merged]
    exact mergeCauses_causeInv _ inv
  · obtain ⟨inForce, names⟩ := (levelInv_iff d).1 inv
    rw [merged, emptied]
    exact ⟨mergeCauses_inRange names inForce, none_namesInRange⟩

/-- Accepted settings, staged in a run and otherwise in force (R160). -/
theorem acceptSettings_causesKept {n : NamedSettings} (hn : NamesInRange n) : CausesKept d (acceptSettings n d) := by
  refine .ite ⟨id, fun inv => (levelInv_iff _).2 ?_⟩ (inForce_causesKept d hn)
  obtain ⟨inForce, names⟩ := (levelInv_iff d).1 inv
  exact ⟨inForce, stage_namesInRange hn names⟩

theorem setPower_causesKept (p : Power) : CausesKept d (setPower p d) := .of_same rfl

theorem setEngine_causesKept (g : Engine) : CausesKept d (setEngine g d) := .of_same rfl

/-! ### The attribution engine (R112, R116 to R128) -/

theorem rackEvent_causesKept (e : Entry) : CausesKept d (rackEvent e d) := by
  rw [rackEvent_eq]
  exact .after_same (raiseCause_causesKept _ _) rfl

theorem settleFound_causesKept (e : Entry) (c : Nat) : CausesKept d (settleFound e c d) :=
  .ite (.after_same (raiseCause_causesKept _ _) rfl) (.of_same rfl)

theorem settleNew_causesKept (e : Entry) (c : Nat) : CausesKept d (settleNew e c d) :=
  .ite (.after_same (raiseCause_causesKept _ _) rfl) (.of_same rfl)

theorem settle_causesKept (e : Entry) : CausesKept d (settle e d) := by
  rcases settle_cases d e with ⟨-, h⟩ | ⟨-, -, h⟩ | ⟨-, -, ⟨-, h⟩ | ⟨-, ⟨r, -, h⟩ | ⟨-, h⟩⟩⟩ <;> rw [h]
  · exact rackEvent_causesKept d e
  · exact settleFound_causesKept d e _
  · exact settleNew_causesKept d e _
  · exact .after_same (settleNew_causesKept _ e _) rfl
  · exact .after_same (raiseCause_causesKept _ .tableOverflow) rfl

theorem earlySettle_causesKept : CausesKept d (earlySettle d) := by
  cases h : d.engine.queue with
  | nil => rw [earlySettle_nil d h]; exact .refl d
  | cons e rest =>
    rw [earlySettle_cons d h]
    have settled : CausesKept d (settle e (setQueue rest d)) := .after_same (settle_causesKept _ e) rfl
    exact settled.trans (.trans (raiseCause_causesKept _ .earlySettle) (setEngine_causesKept _ _))

theorem takeEvent_causesKept (l : Locus) (f : Frame) : CausesKept d (takeEvent l f d) := by
  have queued : CausesKept d (queueEvent l f d) := .ite (.of_same rfl)
    (.ite (.trans (earlySettle_causesKept d) (.of_same rfl)) (.of_same rfl))
  rw [takeEvent_eq]
  exact queued.trans (.of_parts (tallyEvent_causes _ l f) (by rw [tallyEvent_job]))

theorem requestDisturb_causesKept (f : Frame) (src : Source) : CausesKept d (requestDisturb f src d) :=
  .of_parts (requestDisturb_causes d f src) (by rw [requestDisturb_job])

theorem opportunity_causesKept (l : Locus) : CausesKept d (opportunity l d) := .of_same rfl

theorem tallyShift_causesKept : CausesKept d (tallyShift d) := .of_same rfl

theorem settleDue_causesKept : CausesKept d (settleDue d) :=
  .after_same (.foldl (fun x e => settle_causesKept x e) _ _) rfl

/-! ### Requests, the closing test and the job's own work (R161 to R175) -/

theorem giveLanes_causesKept (r : LaneRequest) : CausesKept d (giveLanes r d) :=
  .of_parts (giveLanes_causes d r) (by rw [giveLanes_job])

theorem requestOff_causesKept : CausesKept d (requestOff d) :=
  .of_parts (requestOff_causes d) (by rw [requestOff_job])

theorem leaveClosing_causesKept : CausesKept d (leaveClosing d) := .after_same (raiseCause_causesKept _ .jobEnded) rfl

theorem closingTest_causesKept : CausesKept d (closingTest d) := by
  rcases closingTest_cases d with h | h | h | h <;> rw [h]
  · exact .refl d
  · exact requestOff_causesKept d
  · exact leaveClosing_causesKept d
  · exact .trans (requestOff_causesKept d) (leaveClosing_causesKept _)

theorem enterClosing_causesKept (r : ClosingReason) : CausesKept d (enterClosing r d) :=
  .after_same (stagedInForce_causesKept _) rfl

theorem giveLanesAndTest_causesKept (r : LaneRequest) : CausesKept d (giveLanesAndTest r d) :=
  .ite (.trans (giveLanes_causesKept d r) (closingTest_causesKept _)) (giveLanes_causesKept d r)

theorem jobPowerOff_causesKept : CausesKept d (jobPowerOff d) := .ite (.of_same rfl) (closingTest_causesKept d)

theorem givePowerOff_causesKept : CausesKept d (givePowerOff d) :=
  .ite (.trans (requestOff_causesKept d) (jobPowerOff_causesKept _)) (requestOff_causesKept d)

theorem cyclePowerOff_causesKept : CausesKept d (cyclePowerOff d) :=
  .ite (.after_same (jobPowerOff_causesKept _) rfl) (.of_same rfl)

theorem fallDone_causesKept : CausesKept d (fallDone d) := by
  have reached : CausesKept d (jobPowerOff (setPower { d.power with state := .off } d)) :=
    .after_same (jobPowerOff_causesKept _) rfl
  exact .ite (reached.trans (setPower_causesKept _ _)) reached

theorem dwellEnd_causesKept : CausesKept d (dwellEnd d) := .ite (.of_same rfl) (.of_same rfl)

theorem dwellMark_causesKept : CausesKept d (dwellMark d) := by
  unfold dwellMark
  split
  · exact .ite (dwellEnd_causesKept d) (.of_same rfl)
  · exact .refl d

theorem jobTrip_causesKept : CausesKept d (jobTrip d) := by
  have stop := giveLanes_causesKept d .stop
  have closing : ∀ r, CausesKept d (closingTest (enterClosing r (giveLanes .stop d))) := fun r =>
    stop.trans (.trans (enterClosing_causesKept _ r) (closingTest_causesKept _))
  have recovering : ∀ j : Job, j.staged = (giveLanes .stop d).job.staged →
      CausesKept d (setJob j (giveLanes .stop d)) := fun j staged => stop.trans (.of_parts (setJob_causes _ j) staged)
  unfold jobTrip
  split
  · exact closingTest_causesKept d
  iterate 4 exact .refl d
  all_goals exact .ite (closing .target) (.ite (recovering _ rfl) (closing .exhausted))

/-! ### Code runs (R68 to R83, R101 to R109, R164) -/

theorem countCycle_causesKept : CausesKept d (countCycle d) := .after_same (stagedInForce_causesKept _) rfl

theorem jobCycle_causesKept (giving : Bool) : CausesKept d (jobCycle giving d).1 := by
  have count := countCycle_causesKept d
  unfold jobCycle
  dsimp only
  split_ifs
  · exact count.trans (.of_same rfl)
  · exact count.trans (enterClosing_causesKept _ _)
  · exact count.trans (.of_same rfl)
  · exact count.trans (.after_same (cyclePowerOff_causesKept _) rfl)
  · exact count
  · exact .refl d

theorem judgePin_causesKept (i : LaneId) (tag failing mask : Byte) (p : Fin 8) :
    CausesKept d (judgePin i tag failing mask d p) :=
  .ite (takeEvent_causesKept d _ _) (.ite (opportunity_causesKept d _) (.refl d))

theorem strobe_causesKept (i : LaneId) (tag expected mask : Byte) : CausesKept d (strobe i tag expected mask d) :=
  .ite (.refl d) (.trans (.foldl (fun x p => judgePin_causesKept x _ _ _ _ p) _ d) (.of_same rfl))

theorem openWindow_causesKept (i : LaneId) (tag : Byte) : CausesKept d (openWindow i tag d) :=
  .ite (.after_same (raiseCause_causesKept _ _) rfl) (.of_same rfl)

theorem closeWindow_causesKept (i : LaneId) (tag : Byte) (w : Word) : CausesKept d (closeWindow i tag w d) :=
  .ite (.after_same (raiseCause_causesKept _ _) rfl)
    (.ite (.of_same rfl) (.ite (.of_same rfl) (.after_same (takeEvent_causesKept _ _ _) rfl)))

theorem codeFault_causesKept (k : FaultKind) (i : LaneId) : CausesKept d (codeFault k i d) :=
  .after_same (raiseCause_causesKept _ .codeFault) rfl

theorem markCode_causesKept (giving : Bool) (k : Byte) (i : LaneId) :
    CausesKept d (markCode giving k i d).device := by
  unfold markCode
  split_ifs
  · exact jobCycle_causesKept d giving
  · exact .refl d
  · exact .after_same (raiseCause_causesKept _ _) rfl

theorem oneCode_causesKept (giving : Bool) (i : LaneId) : CausesKept d (oneCode giving i d).device := by
  unfold oneCode
  dsimp only
  split_ifs
  · exact codeFault_causesKept d _ i
  cases decodeCode (patternRead d.pattern (lane d i).position) with
  | stop => exact .of_same rfl
  | vector v => exact .of_same rfl
  | hold n => exact .of_same rfl
  | loop n =>
    dsimp only [repeatCode]
    split_ifs
    · exact codeFault_causesKept d _ i
    · exact .of_same rfl
  | again =>
    dsimp only [againCode]
    split
    · exact codeFault_causesKept d _ i
    · split_ifs <;> exact .of_same rfl
  | strobe tag => exact .after_same (strobe_causesKept _ i tag _ _) rfl
  | openWindow tag => exact .after_same (openWindow_causesKept _ i tag) rfl
  | closeWindow tag => exact .after_same (closeWindow_causesKept _ i tag _) rfl
  | mark k => exact .after_same (markCode_causesKept _ giving k i) rfl
  | rate => exact .of_same rfl
  | park v => exact .of_same rfl
  | wrap =>
    dsimp only [wrapCode]
    split_ifs <;> exact .of_same rfl
  | undefinedCode => exact codeFault_causesKept d _ i

theorem lastCode_causesKept (i : LaneId) : CausesKept d (lastCode i d) := by
  unfold lastCode
  split
  · exact .of_same rfl
  · exact .of_same rfl
  · exact codeFault_causesKept d _ i

theorem codeRun_causesKept (giving : Bool) (i : LaneId) (k : Nat) : CausesKept d (codeRun giving i k d).1 := by
  induction k generalizing d with
  | zero => exact .ite (codeFault_causesKept d _ i) (lastCode_causesKept d i)
  | succ k ih =>
    have one := oneCode_causesKept d giving i
    unfold codeRun
    split_ifs
    · exact codeFault_causesKept d _ i
    · rcases result : oneCode giving i d with d1 | ⟨d1, later⟩ <;> rw [result] at one
      · exact one
      · exact one.trans (ih d1)

/-! ### Step events, starts and resumes (R86, R87, R93, R163) -/

theorem stepCore_causesKept (giving : Bool) (i : LaneId) : CausesKept d (stepCore giving i d).1 := by
  have run : CausesKept d (codeRun giving i Config.runLimit (takeSample i d)).1 :=
    .after_same (codeRun_causesKept _ giving i Config.runLimit) rfl
  unfold stepCore
  dsimp only
  split_ifs
  · exact .of_same rfl
  · exact run.trans (.of_same rfl)
  · exact run
  · exact run.trans (closingTest_causesKept _)

theorem takeDeferred_causesKept (r : Deferred) : CausesKept d (takeDeferred d r) := by
  cases r with
  | request r => exact giveLanesAndTest_causesKept d r
  | powerOff => exact cyclePowerOff_causesKept d
  | report => exact closingTest_causesKept d

theorem deliver_causesKept (later : List Deferred) : CausesKept d (deliver later d) :=
  .foldl takeDeferred_causesKept later d

theorem stepExpiry_causesKept (i : LaneId) : CausesKept d (stepExpiry i d) := by
  unfold stepExpiry
  split
  · exact .ite (.after_same (.trans (stepCore_causesKept _ false i) (deliver_causesKept _ _)) rfl) (.refl d)
  · exact .refl d
  · exact .refl d

theorem startLane_causesKept (i : LaneId) : CausesKept d (startLane i d).1 := by
  unfold startLane
  dsimp only
  split_ifs
  · exact .after_same (stepCore_causesKept _ true i) rfl
  · exact .of_same rfl

theorem startLanes_causesKept (is : List LaneId) : CausesKept d (startLanes is d).1 := by
  induction is generalizing d with
  | nil => exact .refl d
  | cons i is ih => exact (startLane_causesKept d i).trans (ih _)

theorem jobPowerOn_causesKept : CausesKept d (jobPowerOn d) :=
  .ite (.after_same (.trans (startLanes_causesKept _ _) (deliver_causesKept _ _)) rfl) (.refl d)

theorem resumeLane_causesKept (i : LaneId) : CausesKept d (resumeLane d i) :=
  .ite (.ite (.of_same rfl) (.of_same rfl)) (.refl d)

theorem resumeSteps_causesKept (is : List LaneId) : CausesKept d (resumeSteps is d).1 := by
  induction is generalizing d with
  | nil => exact .refl d
  | cons i is ih =>
    have step : CausesKept d (if (lane d i).state.going then stepCore false i d else (d, [])).1 := by
      split_ifs
      · exact stepCore_causesKept d false i
      · exact .refl d
    exact step.trans (ih _)

theorem giveResume_causesKept : CausesKept d (giveResume d) := by
  have lanes : CausesKept d (allLanes.foldl resumeLane d) := .foldl resumeLane_causesKept _ d
  unfold giveResume
  refine .trans (.trans ?_ (resumeSteps_causesKept _ _)) (deliver_causesKept _ _)
  exact .ite (lanes.trans (closingTest_causesKept _)) lanes

/-! ### Samples and the board (R51 to R57) -/

theorem fullScaleCause_causesKept (was : Bool) (v : Nat) : CausesKept d (fullScaleCause was v d) :=
  .ite (raiseCause_causesKept d _) (.refl d)

theorem tripWith_causesKept (c : Cause) (r : RailId) (disturb : Bool) : CausesKept d (tripWith c r disturb d) := by
  have event : CausesKept d (takeEvent (.trip r) d.link.frame (raiseCause c (setPower (tripped d.power) d))) :=
    .after_same (.trans (raiseCause_causesKept _ c) (takeEvent_causesKept _ _ _)) rfl
  have request := CausesKept.ite (c := disturb = true)
    (event.trans (requestDisturb_causesKept _ d.link.frame .rail)) event
  have left := CausesKept.ite (c := d.power.state = .on) (request.trans (giveLanes_causesKept _ .powerLeft)) request
  exact left.trans (jobTrip_causesKept _)

theorem railGlitch_causesKept (r : RailId) (f : Frame) : CausesKept d (railGlitch r f d) :=
  .trans (.trans (.trans (raiseCause_causesKept d _) (takeEvent_causesKept _ _ _)) (requestDisturb_causesKept _ _ _))
    (setPower_causesKept _ _)

theorem superviseCurrent_causesKept (v : Nat) : CausesKept d (superviseCurrent v d) :=
  .ite (.ite (.ite (tripWith_causesKept d _ _ _) (.of_same rfl)) (.of_same rfl)) (.refl d)

theorem superviseRail_causesKept (r : RailId) : CausesKept d (superviseRail r d) :=
  .ite (.ite (.refl d) (railGlitch_causesKept d _ _))
    (.ite (.after_same (tripWith_causesKept _ _ _ _) rfl) (.of_same rfl))

theorem sampleRail_causesKept (r : RailId) (v : Nat) : CausesKept d (sampleRail r v d) := by
  have stored : ∀ p : Power, CausesKept d (fullScaleCause d.power.rails[r].fullScale v (setPower p d)) :=
    fun p => .after_same (fullScaleCause_causesKept _ _ _) rfl
  unfold sampleRail
  dsimp only
  split
  · exact (stored _).trans (superviseRail_causesKept _ _)
  · exact .ite ((stored _).trans (fallDone_causesKept _)) (stored _)
  all_goals exact stored _

theorem sampleChannel_causesKept (c : Channel) (v : Nat) : CausesKept d (sampleChannel c v d) := by
  cases c with
  | rail r => exact sampleRail_causesKept d r v
  | current =>
    exact .after_same (.trans (fullScaleCause_causesKept _ _ _) (superviseCurrent_causesKept _ _)) rfl

/-! ### The blocks at a mark (R3, R55 to R57, R111, R119, R148) -/

theorem readTemperature_causesKept (t : TempReading) : CausesKept d (readTemperature t d) := by
  cases t with
  | sensorOpen => exact raiseCause_causesKept d _
  | halfDegrees t => exact .ite (.of_same rfl) (.after_same (raiseCause_causesKept _ _) rfl)

theorem riseEndTest_causesKept : CausesKept d (riseEndTest d) := by
  unfold riseEndTest
  split
  · have credited : CausesKept d (tripOpportunities (setPower (risen d.power) d)) :=
      .after_same (.foldl (fun x _ => opportunity_causesKept x _) _ _) rfl
    exact credited.trans (jobPowerOn_causesKept _)
  · exact .after_same (tripWith_causesKept _ _ _ _) rfl

theorem powerMark_causesKept : CausesKept d (powerMark d) := by
  have credited : CausesKept d (glitchOpportunities d.power d) := 
    .foldl (fun x _ => .ite (.refl x) (opportunity_causesKept x _)) _ d
  unfold powerMark
  split
  · exact credited.trans (.of_same rfl)
  · exact .ite (riseEndTest_causesKept d) (.of_same rfl)
  · exact .ite (.after_same (fallDone_causesKept _) rfl) (.of_same rfl)
  all_goals exact .of_same rfl

theorem monitorMark_causesKept (v : MarkView) : CausesKept d (monitorMark v d) :=
  .trans (readTemperature_causesKept d _) (powerMark_causesKept _)

theorem settleMark_causesKept : CausesKept d (settleMark d) :=
  .ite (.trans (settleDue_causesKept d) (closingTest_causesKept _)) (settleDue_causesKept d)

theorem settleAndMonitor_causesKept (v : MarkView) : CausesKept d (settleAndMonitor v d) :=
  .ite (.trans (settleMark_causesKept d) (monitorMark_causesKept _ v))
    (.trans (monitorMark_causesKept d v) (settleMark_causesKept _))

theorem handleMark_causesKept (view : MarkView) : CausesKept d (handleMark view d) := by
  have viewed : CausesKept d (peerMark d) := by
    rw [peerMark_eq]
    exact .of_parts rfl rfl
  have begun : CausesKept d (tallyShift (dwellMark (peerMark d))) :=
    (viewed.trans (dwellMark_causesKept _)).trans (tallyShift_causesKept _)
  unfold handleMark
  dsimp only
  split_ifs
  · exact begun.trans (.trans (offerAll_causesKept _) (settleAndMonitor_causesKept _ view))
  · exact begun.trans (.trans (settleAndMonitor_causesKept _ view) (offerAll_causesKept _))

end

end Sys2Proof.Machine
end


section
/-! The cause unit across every step, continued: reception and transmission, the command items and the messages that
carry them, and the walk over all commands. -/

namespace Sys2Proof.Machine

open Sys2Proof.Safety

section

variable (d : Device)

/-! ### Reception (R10 to R15, R27 to R32) -/

theorem goodOutcome_causesKept (k : StationId) : CausesKept d (goodOutcome k d) := by
  rw [goodOutcome_eq]
  exact .of_same rfl

theorem silentOutcome_causesKept (k : StationId) : CausesKept d (silentOutcome k d) := by
  rw [silentOutcome_eq]
  exact .of_same rfl

theorem discard_causesKept (e : ErrorKind) (k : StationId) : CausesKept d (discard e k d) := by
  rw [discard_eq]
  exact .of_same rfl

theorem useHeader_causesKept (k : StationId) (h : HeaderData) : CausesKept d (useHeader k h d) := by
  rw [useHeader_eq]
  exact .of_same rfl

theorem headerEvent_causesKept (b0 b1 b2 b3 : Byte) : CausesKept d (headerEvent b0 b1 b2 b3 d) := by
  unfold headerEvent receiveHeader
  split
  · split
    · exact useHeader_causesKept d _ _
    · exact .after_same (useHeader_causesKept _ _ _) rfl
    · exact discard_causesKept d _ _
  · exact .refl d

theorem truncate_causesKept : CausesKept d (truncate d) := by
  unfold truncate
  split
  · exact discard_causesKept d _ _
  · exact discard_causesKept d _ _
  · exact .refl d

theorem endSlot_causesKept (active : Bool) : CausesKept d (endSlot active d) := by
  unfold endSlot
  split
  · exact .ite (discard_causesKept d _ _) (.after_same (silentOutcome_causesKept _ _) rfl)
  · exact discard_causesKept d _ _
  · exact .refl d

theorem slotEnd_causesKept (active : Bool) : CausesKept d (slotEnd active d) := by
  unfold slotEnd
  cases d.link.slot with
  | none => exact .refl d
  | some k => exact (endSlot_causesKept d active).trans (.of_same rfl)

theorem endSlots_causesKept (active : Bool) : CausesKept d (endSlots active d) := by
  unfold endSlots
  cases d.link.slot with
  | none => exact .refl d
  | some k =>
    exact (endSlot_causesKept d active).trans
      (.foldl (fun x j => .ite (.refl x) (silentOutcome_causesKept x j)) _ _)

/-- Of a peer's items, PRESENT alone reaches the cause unit, by STRAP-MISMATCH (R29). -/
theorem routePeerItem_causesKept (k : StationId) (item : Item) : CausesKept d (routePeerItem k d item) := by
  cases item with
  | present power job budget =>
    have lowered : CausesKept d (lowerBudget budget d) := .ite (.refl d) (.of_same rfl)
    exact .ite (lowered.trans (.after_same (raiseCause_causesKept _ _) rfl)) (lowered.trans (.of_same rfl))
  | disturb lag => exact .of_same rfl
  | ask w => exact .of_same rfl
  | forBench => exact .refl d
  | command c => exact .refl d

/-! ### Transmission, the frame's end and the cadence (R2, R6, R7, R16 to R19) -/

theorem beginMessage_causesKept : CausesKept d (beginMessage d) := .ite (.of_same rfl) (.refl d)

theorem collide_causesKept : CausesKept d (collide d) := by
  unfold collide
  split
  · split
    · exact .of_same rfl
    · exact .refl d
  · exact .refl d

/-- A clean end marks causes as notified (R18, R151). -/
theorem transmissionEnd_causesKept : CausesKept d (transmissionEnd d) := by
  cases flight : d.link.flight with
  | none =>
    rw [transmissionEnd_of_none flight]
    exact .refl d
  | some f =>
    rw [transmissionEnd_of_some flight, sentClean, noteOwnAsk_eq]
    exact .of_unit rfl (notifyCauses_causeInv f.notices) (notifyCauses_inRange f.notices)

theorem endRun_causesKept : CausesKept d (endRun d) := by
  by_cases third : thirdCollision d
  · rw [endRun_of_third third]
    exact (raiseCause_causesKept d .duplicateBay).trans (.of_parts rfl (by rw [raiseCause_job]))
  · rw [endRun_of_not third]
    exact .of_same rfl

theorem endFrame_causesKept (active : Bool) : CausesKept d (endFrame active d) :=
  (endSlots_causesKept d active).trans (.after_same (endRun_causesKept _) rfl)

theorem acceptMark_causesKept (seen : Bool) (moment : Nat) (view : MarkView) :
    CausesKept d (acceptMark seen moment view d) := by
  have ended : CausesKept d (endFrame view.lineActive (atMoment moment { d with pins := view.pins })) :=
    .after_same (endFrame_causesKept _ _) rfl
  exact ended.trans (.after_same (handleMark_causesKept _ view) rfl)

theorem cadenceExpiry_causesKept (high : Nat) (view : MarkView) : CausesKept d (cadenceExpiry high view d) := by
  have recovered : CausesKept d (recoverMuted high d) := .ite (.of_same rfl) (.refl d)
  have driven : ∀ moment, CausesKept d (drivePulse moment (recoverMuted high d)) := fun _ =>
    recovered.trans (.ite (.of_same rfl) (.refl _))
  exact (driven _).trans (acceptMark_causesKept _ _ _ view)

theorem candidateEdge_causesKept (since : Nat) (view : MarkView) : CausesKept d (candidateEdge since view d) :=
  .ite (.refl d) (.ite (acceptMark_causesKept d _ _ view) (.of_same rfl))

theorem stuckLow_causesKept : CausesKept d (stuckLow d) := (raiseCause_causesKept d .cadenceFault).trans (.of_same rfl)

theorem cleanRelease_causesKept : CausesKept d (cleanRelease d) := .ite (.of_same rfl) (.refl d)

/-! ### Command items (R67, R133, R153, R158 to R171, R181 to R192) -/

/-- An item keeps what its execution keeps: every other answer changes the error summary or the replies alone. -/
theorem handleItem_causesKept {body : Device → Device × Answer} (hb : CausesKept d (body d).1) {kind seq : Byte}
    {ok : Bool} : CausesKept d (handleItem kind seq ok body d) := by
  have replied : ∀ (a : Answer) (x : Device), CausesKept x (offerReply kind seq a x) := fun a x =>
    .of_parts (offerReply_causes x kind seq a) (by rw [offerReply_job])
  exact .ite (.of_same rfl) (.ite (hb.trans (replied _ _)) (replied _ d))

theorem bodyLoad_causesKept (args : List Byte) : CausesKept d (bodyLoad args d).1 := by
  unfold bodyLoad
  dsimp only
  split_ifs <;> exact .of_same rfl

theorem bodyJobLanes_causesKept (args : List Byte) : CausesKept d (bodyJobLanes args d).1 := by
  unfold bodyJobLanes
  dsimp only
  split_ifs <;> exact .of_same rfl

/-- JOB-RAILS names no floor and no level. -/
theorem bodyJobRails_causesKept (args : List Byte) : CausesKept d (bodyJobRails args d).1 := by
  unfold bodyJobRails
  dsimp only
  split_ifs
  · exact .refl d
  · exact acceptSettings_causesKept d (n := (railsArgs args).1) none_namesInRange

/-- JOB-LIMITS names no floor and no level. -/
theorem bodyJobLimits_causesKept (args : List Byte) : CausesKept d (bodyJobLimits args d).1 :=
  acceptSettings_causesKept d (n := (limitsArgs args).1) none_namesInRange

theorem bodyJobCauses_causesKept (args : List Byte) : CausesKept d (bodyJobCauses args d).1 :=
  acceptSettings_causesKept d (causesArgs_namesInRange args)

theorem startJob_causesKept (keep : Bool) : CausesKept d (startJob keep d) := by
  have powered : CausesKept d (givePower (if keep then clearEverFailed (setJob (startedJob d.job) d)
      else clearTable (clearEverFailed (setJob (startedJob d.job) d)))) := by
    cases keep <;> exact .of_same rfl
  exact .ite (powered.trans (jobPowerOn_causesKept _)) powered

theorem bodyStart_causesKept (args : List Byte) : CausesKept d (bodyStart args d).1 := by
  unfold bodyStart
  split_ifs
  · exact startJob_causesKept d _
  · exact .refl d

theorem bodyPause_causesKept : CausesKept d (bodyPause d).1 := by
  unfold bodyPause
  split_ifs
  · dsimp only
    exact .after_same (giveLanesAndTest_causesKept _ .hold) rfl
  · exact .refl d

theorem bodyResume_causesKept : CausesKept d (bodyResume d).1 := by
  unfold bodyResume
  split_ifs
  · dsimp only
    exact (enterClosing_causesKept d .target).trans ((giveResume_causesKept _).trans (closingTest_causesKept _))
  · dsimp only
    exact .after_same (giveResume_causesKept _) rfl
  · exact .refl d

theorem abortJob_causesKept : CausesKept d (abortJob d) := by
  unfold abortJob
  refine .trans (.trans (.trans ?_ (giveLanes_causesKept _ .stop)) (requestOff_causesKept _)) (closingTest_causesKept _)
  exact .ite (.of_same rfl) (enterClosing_causesKept d _)

theorem bodyAbort_causesKept : CausesKept d (bodyAbort d).1 := by
  unfold bodyAbort
  split_ifs
  · dsimp only
    exact abortJob_causesKept d
  · exact .refl d

theorem bodyPower_causesKept (args : List Byte) : CausesKept d (bodyPower args d).1 := by
  unfold bodyPower
  split_ifs
  · exact .refl d
  · exact .refl d
  · exact .of_same rfl
  · exact givePowerOff_causesKept d

theorem bodyClearTable_causesKept : CausesKept d (bodyClearTable d).1 := by
  unfold bodyClearTable
  split_ifs <;> exact .of_same rfl

theorem bodyPin_causesKept (args : List Byte) : CausesKept d (bodyPin args d).1 := by
  unfold bodyPin
  split
  · exact .refl d
  · split_ifs <;> exact .of_same rfl

theorem bodyUnpin_causesKept (args : List Byte) : CausesKept d (bodyUnpin args d).1 := by
  unfold bodyUnpin
  split <;> exact .of_same rfl

theorem bodyQueryTable_causesKept (args : List Byte) : CausesKept d (bodyQueryTable args d).1 := by
  unfold bodyQueryTable
  dsimp only
  split_ifs <;> exact .refl d

theorem bodyQuerySnapshot_causesKept (args : List Byte) : CausesKept d (bodyQuerySnapshot args d).1 := by
  unfold bodyQuerySnapshot wholeReadout
  split
  · exact .refl d
  · split_ifs <;> exact .refl d

theorem bodyClearCauses_causesKept (args : List Byte) : CausesKept d (bodyClearCauses args d).1 :=
  .of_unit rfl (clearedCauses_causeInv _) (clearedCauses_inRange _)

/-- A warm restart keeps the cause unit, and empties the staged set (R144, R156). -/
theorem bodyRestart_causesKept : CausesKept d (bodyRestart d).1 :=
  ⟨id, fun inv => (levelInv_iff _).2 ⟨((levelInv_iff d).1 inv).1, none_namesInRange⟩⟩

/-- Every command item, whatever its kind. -/
theorem itemByKind_causesKept (kind seq : Byte) (args : List Byte) : CausesKept d (itemByKind kind seq args d) := by
  unfold itemByKind
  split <;> refine handleItem_causesKept d ?_
  · exact bodyLoad_causesKept d args
  · exact bodyJobLanes_causesKept d args
  · exact bodyJobRails_causesKept d args
  · exact bodyJobLimits_causesKept d args
  · exact bodyJobCauses_causesKept d args
  · exact bodyStart_causesKept d args
  · exact bodyPause_causesKept d
  · exact bodyResume_causesKept d
  · exact bodyAbort_causesKept d
  · exact bodyPower_causesKept d args
  · exact bodyClearTable_causesKept d
  · exact bodyPin_causesKept d args
  · exact bodyUnpin_causesKept d args
  · exact .refl d
  · exact bodyQueryTable_causesKept d args
  · exact bodyQuerySnapshot_causesKept d args
  · exact .refl d
  · exact bodyClearCauses_causesKept d args
  · exact .refl d
  · exact .refl d
  · exact .refl d
  · exact .refl d
  · exact .of_same rfl
  · exact bodyRestart_causesKept d
  · exact .refl d

/-! ### Messages (R13 to R15, R180) -/

theorem blockEvent_causesKept (e : BlockEvent) : CausesKept d (blockEvent d e) := by
  cases e with
  | step i pins => exact .after_same (stepExpiry_causesKept _ i) rfl
  | sample c v => exact sampleChannel_causesKept d c v

theorem routeItem_causesKept (k : StationId) (item : Item) : CausesKept d (routeItem k d item) := by
  cases item with
  | command c => exact .ite (itemByKind_causesKept d _ _ _) (.refl d)
  | present power job budget => exact routePeerItem_causesKept d k (.present power job budget)
  | disturb lag => exact routePeerItem_causesKept d k (.disturb lag)
  | ask w => exact routePeerItem_causesKept d k (.ask w)
  | forBench => exact .refl d

theorem commandItems_causesKept (items : List Item) (between : List (List BlockEvent)) :
    CausesKept d (commandItems items between d) := by
  induction items generalizing between d with
  | nil => exact .refl d
  | cons item rest ih =>
    have routed := routeItem_causesKept d 0 item
    cases rest with
    | nil => exact routed
    | cons next rest => exact (routed.trans (.foldl blockEvent_causesKept _ _)).trans (ih _ _)

theorem messageEvent_causesKept (bytes : List Byte) (view : MessageView) :
    CausesKept d (messageEvent bytes view d) := by
  have completed : ∀ k length count, CausesKept d
      (completeMessage k length count bytes view.between { d with pins := view.pins }) := by
    intro k length count
    unfold completeMessage
    split
    · exact .after_same (discard_causesKept _ _ _) rfl
    · have received : CausesKept d (goodOutcome k (setReception .done { d with pins := view.pins })) :=
        .after_same (goodOutcome_causesKept _ k) rfl
      exact received.trans (.ite (commandItems_causesKept _ _ _) (.foldl (fun x => routeItem_causesKept x k) _ _))
  unfold messageEvent
  split
  · exact .ite (completed _ _ _) (.refl d)
  · exact .refl d

end

/-! ### The walk -/

theorem cold_causeInv (bay : BitVec 4) (budget : BitVec 2) : CauseInv (Device.cold bay budget).causes := by
  change CauseInv CauseUnit.cold
  decide

theorem cold_levelInv (bay : BitVec 4) (budget : BitVec 2) : LevelInv (Device.cold bay budget) := by
  have unit : UnitInRange CauseUnit.cold := by
    unfold UnitInRange
    decide
  exact (levelInv_iff _).2 ⟨unit, none_namesInRange⟩

theorem causesKept_of_onDevice {f : Device → Device} (hf : ∀ d, CausesKept d (f d)) {s t : State}
    (run : onDevice f s = .next t) : CausesKept s.toDevice t.toDevice := by
  cases run
  exact hf _

/-- Every command keeps the cause unit and the staged levels in range. -/
theorem exec_causesKept (c : Instr) {s t : State} (run : exec c s = .next t) :
    CausesKept s.toDevice t.toDevice := by
  cases item : itemParts c with
  | some parts =>
    obtain ⟨kind, seq, args⟩ := parts
    rw [exec_itemByKind s item] at run
    cases run
    exact .after_same (itemByKind_causesKept _ kind seq args) rfl
  | none =>
    cases c with
    | coldStart bay budget =>
      exact causesKept_of_onDevice
        (fun _ => ⟨fun _ => cold_causeInv bay budget, fun _ => cold_levelInv bay budget⟩) run
    | cadenceTimerExpiry high view => exact causesKept_of_onDevice (fun d => cadenceExpiry_causesKept d high view) run
    | candidateMark since view => exact causesKept_of_onDevice (fun d => candidateEdge_causesKept d since view) run
    | pulseLineStuckLow => exact causesKept_of_onDevice stuckLow_causesKept run
    | cleanMarkRelease => exact causesKept_of_onDevice cleanRelease_causesKept run
    | headerReceived b0 b1 b2 b3 =>
      exact causesKept_of_onDevice (fun d => headerEvent_causesKept d b0 b1 b2 b3) run
    | messageComplete bytes view => exact causesKept_of_onDevice (fun d => messageEvent_causesKept d bytes view) run
    | lineIdleTimeout => exact causesKept_of_onDevice truncate_causesKept run
    | framingError => exact causesKept_of_onDevice truncate_causesKept run
    | slotEnd active => exact causesKept_of_onDevice (fun d => slotEnd_causesKept d active) run
    | ownSlotTransmit => exact causesKept_of_onDevice beginMessage_causesKept run
    | collision => exact causesKept_of_onDevice collide_causesKept run
    | transmissionClean => exact causesKept_of_onDevice transmissionEnd_causesKept run
    | converterSample c v => exact causesKept_of_onDevice (fun d => sampleChannel_causesKept d c v) run
    | stepTimerExpiry i pins =>
      exact causesKept_of_onDevice (fun d => blockEvent_causesKept d (.step i pins)) run
    | dwellEnd => exact causesKept_of_onDevice dwellEnd_causesKept run
    | unknownCommand kind seq args => exact causesKept_of_onDevice (fun d => itemByKind_causesKept d kind seq args) run
    | _ => exact absurd item (by simp [itemParts])

theorem step_causesKept {s t : State} (next : step s = .next t) : CausesKept s.toDevice t.toDevice := by
  unfold step at next
  split at next
  · cases next
    exact .of_same rfl
  · exact .after_same (exec_causesKept _ next) rfl

end Sys2Proof.Machine

namespace Sys2Proof.Proofs

open Sys2Proof.Machine Sys2Proof.Safety

/-- Settles O54: the cause unit changes by occurrences, clears, notified marks and named levels alone, and what is
staged was clamped when it was named. -/
theorem stepKeepsCauseCounts : Obligations.StepKeepsCauseCounts :=
  ⟨fun _ _ inv next => (step_causesKept next).counts inv, fun _ _ inv next => (step_causesKept next).levels inv⟩

end Sys2Proof.Proofs
end


section
/-! CLEAR-CAUSES (R153, R189): the causes that a mask names, with their notices. -/

namespace Sys2Proof.Machine

open Sys2Proof.Safety

/-- The places of a mask, by the bits of the two bytes that carry it (R193). -/
theorem isQueued_ofNat (n : Nat) (i : Fin 15) : isQueued (BitVec.ofNat 16 n) i = n.testBit (i.val + 1) := by
  have place : i.val + 1 < 16 := by omega
  rw [isQueued, BitVec.getLsbD_ofNat, decide_eq_true place, Bool.true_and]

theorem exec_clearCauses {s : State} (room : hasRoom s) (seq : Byte) {args : List Byte} (length : args.length = 2) :
    exec (.clearCauses seq args) s = .next (answeredBare
      { s with toDevice := clearCauses (BitVec.ofNat 16 (nat16 args 0)) s.toDevice } 0x12 seq .accepted) :=
  next_handleItem room (lengthIs_of_eq length) (body := bodyClearCauses args) (a := { reason := .accepted }) rfl

end Sys2Proof.Machine

namespace Sys2Proof.Proofs

open Sys2Proof.Machine Sys2Proof.Safety

/-- Settles O42: a named cause's record is cleared and its notice withdrawn, place by place; the full queue is O26's. -/
theorem clearCausesRearms : Obligations.ClearCausesRearms := by
  intro s seq args length
  refine ⟨fun full => (itemsThatAreNotExecuted.1 (.clearCauses seq args) 0x12 seq args s rfl).1 full,
    fun room => ⟨_, exec_clearCauses room seq length, rfl, fun i => ?_⟩⟩
  have record := clearedCauses_records (BitVec.ofNat 16 (nat16 args 0)) s.causes i
  have notice : (s.link.notices &&& ~~~(BitVec.ofNat 16 (nat16 args 0))).getLsbD (i.val + 1) =
      (s.link.notices.getLsbD (i.val + 1) && !(nat16 args 0).testBit (i.val + 1)) := by
    rw [← isQueued_ofNat, isQueued, BitVec.getLsbD_and, BitVec.getLsbD_not,
      decide_eq_true (show i.val + 1 < 16 by omega), Bool.true_and]
  rw [isQueued_ofNat] at record
  by_cases named : (nat16 args 0).testBit (i.val + 1) = true
  · rw [if_pos named] at record ⊢
    exact ⟨record, notice.trans (by rw [named, Bool.not_true, Bool.and_false])⟩
  · rw [if_neg named] at record ⊢
    exact ⟨record, notice.trans (by rw [Bool.not_eq_true _ |>.mp named, Bool.not_false, Bool.and_true])⟩

end Sys2Proof.Proofs
end


section
/-! JOB-CAUSES (R147, R149, R152, R158, R160, R161): the floor and the levels that an item names, staged or in force. -/

namespace Sys2Proof.Machine

open Sys2Proof.Safety

/-! ### The settings that JOB-CAUSES names (R157, R158, R198) -/

theorem namedValue_zero_seven (isNamed : Bool) (v : Nat) : (namedValue isNamed 0 7 v).1 =
    if isNamed then some (min 7 v) else none := by
  cases isNamed <;> simp [namedValue, clamp]

theorem namedValue_clamped_iff (isNamed : Bool) (v : Nat) :
    (namedValue isNamed 0 7 v).2 = true ↔ isNamed = true ∧ 7 < v := by
  cases isNamed <;> simp [namedValue, clamp]

theorem causesArgs_floor (args : List Byte) : (causesArgs args).1.floor =
    if (nat16 args 0).testBit 0 then some (min 7 (nat8 args 2)) else none := namedValue_zero_seven _ _

theorem causesArgs_levels (args : List Byte) (i : Fin 15) : (causesArgs args).1.levels[i] =
    if (nat16 args 0).testBit (i.val + 1) then some (min 7 (nat8 args (3 + i.val))) else none := by
  simp only [causesArgs, Fin.getElem_fin, Vector.getElem_ofFn]
  exact namedValue_zero_seven _ _

theorem causesArgs_clamped_iff (args : List Byte) : (causesArgs args).2 = true ↔
    (nat16 args 0).testBit 0 = true ∧ 7 < nat8 args 2 ∨
      ∃ i : Fin 15, (nat16 args 0).testBit (i.val + 1) = true ∧ 7 < nat8 args (3 + i.val) := by
  simp only [causesArgs, Bool.or_eq_true, List.any_eq_true, List.mem_finRange, true_and, levelArg,
    namedValue_clamped_iff, named]

/-- A value that is named or absent, laid over another. -/
theorem ite_some_or {c : Prop} [Decidable c] (v : Nat) (o : Option Nat) :
    (if c then some v else none).or o = if c then some v else o := by
  split_ifs <;> rfl

theorem ite_some_getD {c : Prop} [Decidable c] (v w : Nat) :
    (if c then some v else none).getD w = if c then v else w := by
  split_ifs <;> rfl

theorem acceptedAs_cases (b : Bool) :
    acceptedAs b = .clamped ∧ b = true ∨ acceptedAs b = .accepted ∧ ¬b = true := by
  cases b
  · exact .inr ⟨rfl, Bool.false_ne_true⟩
  · exact .inl ⟨rfl, rfl⟩

/-! ### Settings that name the notice floor and cause levels alone (R152, R160, R161) -/

/-- Named settings with no setting of the monitor's and none of the job's. -/
def NamesNoticesOnly (n : NamedSettings) : Prop :=
  n = { NamedSettings.none with floor := n.floor, levels := n.levels }

theorem causesArgs_namesNoticesOnly (args : List Byte) : NamesNoticesOnly (causesArgs args).1 := rfl

theorem nat16_lt (bs : List Byte) (k : Nat) : nat16 bs k < 65536 := by
  have high : nat8 bs k < 256 := (byteAt bs k).isLt
  have low : nat8 bs (k + 1) < 256 := (byteAt bs (k + 1)).isLt
  rw [nat16]
  omega

/-- Every bit of the names word names the floor or a level (R198), so it names none of them only where it is 0. -/
theorem namesNotices_causesArgs (args : List Byte) :
    namesNotices (causesArgs args).1 = decide (nat16 args 0 ≠ 0) := by
  rw [Bool.eq_iff_iff, decide_eq_true_iff, ← not_iff_not, Bool.not_eq_true, not_not]
  refine ⟨fun unnamed => Nat.eq_of_testBit_eq fun k => ?_, fun zero => ?_⟩
  · obtain ⟨floor, levels⟩ := namesNotices_eq_false unnamed
    rw [Nat.zero_testBit]
    cases k with
    | zero =>
      rw [causesArgs_floor] at floor
      simpa using floor
    | succ k =>
      by_cases place : k < 15
      · have level := levels ⟨k, place⟩
        rw [causesArgs_levels] at level
        simpa using level
      · have high : 2 ^ 16 ≤ 2 ^ (k + 1) := Nat.pow_le_pow_right (by decide) (by omega)
        exact Nat.testBit_lt_two_pow ((nat16_lt args 0).trans_le high)
  · simp only [namesNotices, causesArgs_floor, causesArgs_levels, zero, Nat.zero_testBit]
    simp

/-- The link controller as named settings come into force: the notices that then pass are offered (R152, R161). -/
theorem inForce_link (n : NamedSettings) (d : Device) : (inForce n d).link = { d.link with
    notices := if namesNotices n = true ∧ d.link.mode ≠ .listenOnly
      then d.link.notices ||| passing (mergeCauses n d.causes) else d.link.notices } := by
  unfold inForce noticesInForce
  dsimp only
  by_cases named : namesNotices n = true
  · rw [if_pos named, offerAll_eq, offer_link]
    by_cases silent : d.link.mode = .listenOnly <;> simp [named, silent]
  · rw [if_neg named, if_neg fun h => named h.1]
    rfl

section

variable {n : NamedSettings} (only : NamesNoticesOnly n)

include only

theorem NamesNoticesOnly.monitorInForce (p : Power) : Machine.monitorInForce n p = p := by
  rw [only]
  have settings : mergeMonitor { NamedSettings.none with floor := n.floor, levels := n.levels } p.settings =
      p.settings := by
    simp [mergeMonitor, NamedSettings.none, namesThreshold]
  have unsupervised :
      namesSupervision { NamedSettings.none with floor := n.floor, levels := n.levels } = false := by
    simp [namesSupervision, NamedSettings.none]
  rw [Machine.monitorInForce, settings, unsupervised]
  rfl

theorem NamesNoticesOnly.stage (m : NamedSettings) : Machine.stage n m =
    { m with floor := n.floor.or m.floor, levels := (Machine.stage n m).levels } := by
  rw [only]
  simp [Machine.stage, NamedSettings.none]

/-- The floor and levels in force, with the notices that then pass offered (R152). -/
theorem NamesNoticesOnly.inForce (d : Device) : Machine.inForce n d = { d with
    causes := mergeCauses n d.causes, link := { d.link with
      notices := if namesNotices n = true ∧ d.link.mode ≠ .listenOnly
        then d.link.notices ||| passing (mergeCauses n d.causes) else d.link.notices } } := by
  refine device_eq (inForce_link n d) (inForce_view d n) ?power (inForce_pattern d n) (inForce_lanes d n)
    (inForce_captures d n) (inForce_pins d n) (inForce_engine d n) (inForce_causes n d) ?job (inForce_bench d n)
    (inForce_now d n)
  case power => rw [inForce_power, only.monitorInForce]
  case job =>
    rw [inForce_job, only]
    rfl

end

/-! ### JOB-CAUSES as a row (R160) -/

theorem exec_jobCauses {s : State} (room : hasRoom s) (seq : Byte) {args : List Byte} (length : args.length = 18)
    {d : Device} (run : acceptSettings (causesArgs args).1 s.toDevice = d) : exec (.jobCauses seq args) s =
      .next (answeredBare { s with toDevice := d } 0x05 seq (acceptedAs (causesArgs args).2)) :=
  next_handleItem room (lengthIs_of_eq length) (body := bodyJobCauses args)
    (a := { reason := acceptedAs (causesArgs args).2 }) (by rw [← run]; rfl)

end Sys2Proof.Machine

namespace Sys2Proof.Proofs

open Sys2Proof.Machine Sys2Proof.Safety

/-- Settles O31: JOB-CAUSES names nothing of the monitor's and nothing of the job's, so all that comes into force is in
the cause unit, and the notices that then pass are offered. -/
theorem jobCausesStagesOrSets : Obligations.JobCausesStagesOrSets := by
  intro s seq args room length
  dsimp only
  have only := causesArgs_namesNoticesOnly args
  have reason := acceptedAs_cases (causesArgs args).2
  rw [causesArgs_clamped_iff] at reason
  by_cases staging : s.job.state.staging = true
  case pos =>
    have run : acceptSettings (causesArgs args).1 s.toDevice =
        setJob { s.job with staged := stage (causesArgs args).1 s.job.staged } s.toDevice := if_pos staging
    refine ⟨_, _, exec_jobCauses room seq length run, rfl, reason, fun _ => ⟨rfl, rfl, ?staged, fun i => ?level⟩,
      fun h => absurd staging (by rw [h]; decide)⟩
    case staged =>
      have staged := only.stage s.job.staged
      rwa [causesArgs_floor, ite_some_or] at staged
    case level =>
      have level : (stage (causesArgs args).1 s.job.staged).levels[i] =
          (causesArgs args).1.levels[i].or s.job.staged.levels[i] := by simp [stage]
      rwa [causesArgs_levels, ite_some_or] at level
  case neg =>
    have run := (if_neg staging : acceptSettings (causesArgs args).1 s.toDevice = _).trans (only.inForce s.toDevice)
    refine ⟨_, _, exec_jobCauses room seq length run, rfl, reason, fun h => absurd h staging,
      fun _ => ⟨rfl, ?floor, fun i => ?level, fun quiet => ?quiet, fun talks named i => ?offered⟩⟩
    case floor =>
      have floor : (mergeCauses (causesArgs args).1 s.causes).floor =
          (causesArgs args).1.floor.getD s.causes.floor := rfl
      rwa [causesArgs_floor, ite_some_getD] at floor
    case level =>
      have level := mergeCauses_records (causesArgs args).1 s.causes i
      rwa [causesArgs_levels, ite_some_getD] at level
    case quiet =>
      refine congrArg (fun m => { s.link with notices := m }) (if_neg fun offers => ?_)
      rw [namesNotices_causesArgs, decide_eq_true_iff] at offers
      exact quiet.elim offers.2 offers.1
    case offered =>
      have offers : namesNotices (causesArgs args).1 = true ∧ s.link.mode ≠ .listenOnly :=
        ⟨by rw [namesNotices_causesArgs, decide_eq_true named], talks⟩
      refine (congrArg (fun m : CauseSet => m.getLsbD (i.val + 1)) (if_pos offers)).trans ?_
      rw [BitVec.getLsbD_or, getLsbD_passing, passesTest_iff]
      rfl

end Sys2Proof.Proofs
end


section
/-! JOB-LANES (R158, R159, R198): its tests in their order, and the record that it sets. -/

namespace Sys2Proof.Machine

open Sys2Proof.Safety

/-! ### The arguments (R158, R198) -/

/-- A JOB-LANES of these arguments names no lane or more than the four, or starts a lane beyond memory. -/
def lanesOutOfRange (args : List Byte) : Prop :=
  nat8 args 8 < 1 ∨ 15 < nat8 args 8 ∨ ∃ i : LaneId, 32767 < nat16 args (2 * i.val)

theorem lanesArgs_startHigh_iff (args : List Byte) :
    (allLanes.any fun i => decide (32767 < (lanesArgs args).starts[i])) = true ↔
      ∃ i : LaneId, 32767 < nat16 args (2 * i.val) := by
  simp [allLanes, lanesArgs]

/-- A value clamped, as a choice between the ends of its range and itself. -/
theorem clamp_value {low high : Nat} (range : low ≤ high) (n : Nat) :
    (clamp low high n).1 = if n < low then low else if high < n then high else n := by
  rw [clamp]
  split_ifs <;> omega

/-- The clamping of a value is told by the value having changed (R158). -/
theorem clamp_changed {low high : Nat} (range : low ≤ high) (n : Nat) :
    (clamp low high n).2 = decide ((clamp low high n).1 ≠ n) := by
  rw [clamp, decide_eq_decide]
  omega

theorem lanesArgs_window (args : List Byte) : (lanesArgs args).window =
    if nat8 args 11 < 4 then 4 else if 64 < nat8 args 11 then 64 else nat8 args 11 :=
  clamp_value (by decide) _

theorem lanesArgs_retries (args : List Byte) : (lanesArgs args).retries =
    if 3 < nat8 args 12 then 3 else nat8 args 12 :=
  (clamp_value (by decide) _).trans (if_neg (Nat.not_lt_zero _))

/-- The reply tells whether the rise window or the retries were clamped (R158). -/
theorem lanesArgs_reason (args : List Byte) : acceptedAs (lanesArgs args).clamped =
    if (lanesArgs args).window ≠ nat8 args 11 ∨ (lanesArgs args).retries ≠ nat8 args 12 then .clamped
    else .accepted := by
  have clamped : (lanesArgs args).clamped =
      decide ((lanesArgs args).window ≠ nat8 args 11 ∨ (lanesArgs args).retries ≠ nat8 args 12) := by
    rw [Bool.decide_or]
    exact congrArg₂ or (clamp_changed (by decide) _) (clamp_changed (by decide) _)
  simp only [acceptedAs, clamped, decide_eq_true_iff]

/-! ### The tests, and the effect (R158, R159) -/

/-- The block with the record of a JOB-LANES (R159). -/
def lanesSet (args : List Byte) (d : Device) : Device := { d with
  job := { d.job with starts := (lanesArgs args).starts, mask := some (BitVec.ofNat 4 (lanesArgs args).mask),
                      target := some (lanesArgs args).target, retries := (lanesArgs args).retries, cycles := 0,
                      jobSet := true, state := if d.job.state = .empty then .ready else d.job.state },
  power := { d.power with settings := { d.power.settings with riseWindow := (lanesArgs args).window } } }

section

variable {d : Device} {args : List Byte}

theorem bodyJobLanes_active (active : d.job.state.active = true) : bodyJobLanes args d = answering .state d :=
  if_pos active

theorem bodyJobLanes_range (idle : ¬d.job.state.active = true) (bad : lanesOutOfRange args) :
    bodyJobLanes args d = answering .range d := by
  refine (if_neg idle).trans ?_
  rcases bad with low | many | high
  · exact if_pos (.inl (Nat.lt_one_iff.1 low))
  · exact if_pos (.inr many)
  · by_cases mask : (lanesArgs args).mask = 0 ∨ 15 < (lanesArgs args).mask
    · exact if_pos mask
    · exact (if_neg mask).trans (if_pos ((lanesArgs_startHigh_iff args).2 high))

theorem bodyJobLanes_accepted (idle : ¬d.job.state.active = true) (good : ¬lanesOutOfRange args) :
    bodyJobLanes args d = (lanesSet args d, { reason := acceptedAs (lanesArgs args).clamped }) := by
  obtain ⟨low, many, high⟩ : ¬nat8 args 8 < 1 ∧ ¬15 < nat8 args 8 ∧ ¬∃ i : LaneId, 32767 < nat16 args (2 * i.val) := by
    simpa only [lanesOutOfRange, not_or] using good
  have mask : ¬((lanesArgs args).mask = 0 ∨ 15 < (lanesArgs args).mask) :=
    not_or.2 ⟨fun none => low (Nat.lt_one_iff.2 none), many⟩
  exact (if_neg idle).trans ((if_neg mask).trans (if_neg (mt (lanesArgs_startHigh_iff args).1 high)))

end

/-! ### JOB-LANES as a row -/

theorem exec_jobLanes {s : State} (room : hasRoom s) (seq : Byte) {args : List Byte} (length : args.length = 13)
    {d : Device} {reason : Reason} (run : bodyJobLanes args s.toDevice = (d, { reason := reason })) :
    exec (.jobLanes seq args) s = .next (answeredBare { s with toDevice := d } 0x02 seq reason) :=
  next_handleItem room (lengthIs_of_eq length) run

end Sys2Proof.Machine

namespace Sys2Proof.Proofs

open Sys2Proof.Machine Sys2Proof.Safety

/-- Settles O28: the three tests of R158 in their order, and with none failing the record that R159 sets. -/
theorem jobLanesSetsTheJob : Obligations.JobLanesSetsTheJob := by
  intro s seq args room length mask badRange window retries reason
  refine ⟨fun active => exec_jobLanes room seq length (bodyJobLanes_active active),
    fun idle bad => exec_jobLanes room seq length (bodyJobLanes_range (by rw [idle]; decide) bad),
    fun idle good => ?accepted⟩
  rw [exec_jobLanes room seq length (bodyJobLanes_accepted (by rw [idle]; decide) good), lanesArgs_reason, lanesSet,
    lanesArgs_window, lanesArgs_retries]
  rfl

end Sys2Proof.Proofs
end


section
/-! The cycle count against the target across every step (R159, R162, R164, R165). A cycle is counted only in a run
under its target, and the run is under it no longer once the count meets it; START and JOB-LANES count from 0; and no
other work raises the count or brings a run back under its target. -/

namespace Sys2Proof.Machine

open Sys2Proof.Safety

/-! ### The job's runs, and the count against the target -/

/-- Whether a nonzero cycle target is still ahead of the cycle count. -/
def BelowTarget (j : Job) : Prop := ∀ t ∈ j.target, t ≠ 0 → j.cycles < t

theorem targetInv_of_below {j : Job} (below : BelowTarget j) : TargetInv j := fun t target nonzero =>
  ⟨(below t target nonzero).le, fun _ => below t target nonzero⟩

theorem BelowTarget.of_under {j : Job} (inv : TargetInv j) (under : underTarget j = true) : BelowTarget j :=
  fun t target nonzero => (inv t target nonzero).2 under

/-- A job whose count starts afresh (R159, R162). -/
theorem BelowTarget.of_zero {j : Job} (zero : j.cycles = 0) : BelowTarget j := fun _ _ nonzero =>
  zero ▸ Nat.pos_of_ne_zero nonzero

/-- A count that was below the target has now met it or is still below it. -/
theorem targetMet_or_below {j k : Job} (below : BelowTarget j) (target : k.target = j.target)
    (cycles : k.cycles = j.cycles + 1) : targetMet k = true ∨ BelowTarget k := by
  rw [or_iff_not_imp_left]
  intro unmet t ht nonzero
  have ahead := below t (target ▸ ht) nonzero
  have apart : k.cycles ≠ t := by simpa [targetMet, Option.mem_def.1 ht, nonzero] using unmet
  omega

/-- A count that meets the target stands at it, and the run that meets it is under it no longer (R164, R165). -/
theorem targetInv_of_targetMet {j k : Job} (met : targetMet k = true) (target : j.target = k.target)
    (cycles : j.cycles = k.cycles) (ended : ¬underTarget j = true) : TargetInv j := by
  intro t ht nonzero
  have there : t ≠ 0 ∧ k.cycles = t := by simpa [targetMet, Option.mem_def.1 (target ▸ ht)] using met
  exact ⟨(cycles.trans there.2).le, fun under => absurd under ended⟩

/-- The states in which power ON reached brings RUNNING are those of a run under its target (R163). -/
theorem underTarget_of_awaitsOn {j : Job} (awaits : awaitsOn j = true) : underTarget j = true := by
  unfold awaitsOn at awaits
  split at awaits
  case h_4 => cases awaits
  all_goals rw [underTarget, ‹j.state = _›]

/-- A cycle is counted in a run under its target alone (R164, R165). -/
theorem underTarget_of_countsCycle {j : Job} (counts : countsCycle j = true) : underTarget j = true := by
  obtain running | ⟨paused, due⟩ : j.state = .running ∨ j.state = .paused ∧ j.finishDue = false := by
    simpa [countsCycle] using counts
  · rw [underTarget, running]
  · rw [underTarget, paused]
    simp [due]

/-! ### Work that keeps the count within the target -/

/-- Between two devices the cycle count stays within its target. -/
def TargetKept (d d' : Device) : Prop := TargetInv d.job → TargetInv d'.job

/-- What the invariant reads of the job. -/
def course (j : Job) : Option Nat × Nat × Bool := (j.target, j.cycles, underTarget j)

namespace TargetKept

theorem refl (d : Device) : TargetKept d d := id

theorem trans {a b c : Device} (hab : TargetKept a b) (hbc : TargetKept b c) : TargetKept a c := hbc ∘ hab

/-- The target and the count stand, and no run comes under its target. -/
theorem of_record {d d' : Device} (target : d'.job.target = d.job.target) (cycles : d'.job.cycles = d.job.cycles)
    (runs : underTarget d'.job = true → underTarget d.job = true) : TargetKept d d' := by
  intro inv t ht nonzero
  obtain ⟨within, under⟩ := inv t (target ▸ ht) nonzero
  rw [cycles]
  exact ⟨within, under ∘ runs⟩

theorem of_same {d d' : Device} (same : course d'.job = course d.job) : TargetKept d d' := by
  obtain ⟨target, cycles, under⟩ : _ ∧ _ ∧ _ := by simpa only [course, Prod.mk.injEq] using same
  exact of_record target cycles (under ▸ id)

/-- Work from a device whose job has the same course. -/
theorem after_same {d x d' : Device} (kept : TargetKept x d') (same : course x.job = course d.job) :
    TargetKept d d' := (of_same same).trans kept

theorem ite {c : Prop} [Decidable c] {d a b : Device} (ha : TargetKept d a) (hb : TargetKept d b) :
    TargetKept d (if c then a else b) := by
  split_ifs
  · exact ha
  · exact hb

theorem foldl {α : Type} {f : Device → α → Device} (h : ∀ d a, TargetKept d (f d a)) (l : List α) (d : Device) :
    TargetKept d (l.foldl f d) := by
  induction l generalizing d with
  | nil => exact refl d
  | cons a l ih => exact (h d a).trans (ih _)

end TargetKept

section

variable (d : Device)

theorem raiseCause_targetKept (c : Cause) : TargetKept d (raiseCause c d) := .of_same (by rw [raiseCause_job])

theorem offerAll_targetKept : TargetKept d (offerAll d) := .of_same (by rw [offerAll_eq, offer_job])

theorem requestDisturb_targetKept (f : Frame) (src : Source) : TargetKept d (requestDisturb f src d) :=
  .of_same (by rw [requestDisturb_job])

/-- An event reaches the job by the rack events that an early settle counts, and by nothing else (R117, R175). -/
theorem takeEvent_targetKept (l : Locus) (f : Frame) : TargetKept d (takeEvent l f d) := by
  have queued : TargetKept d (queueEvent l f d) := .of_same (by rw [queueEvent_job]; rfl)
  rw [takeEvent_eq]
  exact queued.trans (.of_same (by rw [tallyEvent_job]))

theorem opportunity_targetKept (l : Locus) : TargetKept d (opportunity l d) := .of_same rfl

theorem settleDue_targetKept : TargetKept d (settleDue d) := by
  have settled : ∀ x e, TargetKept x (settle e x) := fun x e => .of_same (by rw [settle_job]; rfl)
  rw [settleDue_eq]
  exact .after_same (.foldl settled _ _) rfl

/-! ### Settings, requests and the closing test (R161 to R175) -/

theorem inForce_targetKept (n : NamedSettings) : TargetKept d (inForce n d) := .of_same (by rw [inForce_job]; rfl)

theorem acceptSettings_targetKept (n : NamedSettings) : TargetKept d (acceptSettings n d) :=
  .ite (.of_same rfl) (inForce_targetKept d n)

/-- The staged set coming into force leaves what the invariant reads. -/
theorem stagedInForce_course : course (stagedInForce d).job = course d.job := by
  rw [stagedInForce, inForce_job]
  rfl

theorem giveLanes_targetKept (r : LaneRequest) : TargetKept d (giveLanes r d) := .of_same (by rw [giveLanes_job])

theorem requestOff_targetKept : TargetKept d (requestOff d) := .of_same (by rw [requestOff_job])

/-- A job that leaves CLOSING is CONCLUDED or ABORTED, and in no run (R173). -/
theorem leaveClosing_targetKept : TargetKept d (leaveClosing d) := by
  refine .of_record (by simp [leaveClosing]) (by simp [leaveClosing]) fun under => ?_
  simp only [leaveClosing, raiseCause_job, setJob_job, underTarget] at under
  split_ifs at under

theorem closingTest_targetKept : TargetKept d (closingTest d) := by
  rcases closingTest_cases d with h | h | h | h <;> rw [h]
  · exact .refl d
  · exact requestOff_targetKept d
  · exact leaveClosing_targetKept d
  · exact .trans (requestOff_targetKept d) (leaveClosing_targetKept _)

/-- A job in CLOSING is in no run (R172). -/
theorem enterClosing_targetKept (r : ClosingReason) : TargetKept d (enterClosing r d) := by
  have closing : TargetKept d (setJob { d.job with
      state := .closing, closing := some r, finishDue := false, phase := none, dwell := none } d) :=
    .of_record rfl rfl nofun
  exact closing.trans (.of_same (stagedInForce_course _))

theorem giveLanesAndTest_targetKept (r : LaneRequest) : TargetKept d (giveLanesAndTest r d) :=
  .ite (.trans (giveLanes_targetKept d r) (closingTest_targetKept _)) (giveLanes_targetKept d r)

/-! ### Power, the dwell and trips (R168 to R170) -/

theorem jobPowerOff_targetKept : TargetKept d (jobPowerOff d) := .ite (.of_same rfl) (closingTest_targetKept d)

theorem givePowerOff_targetKept : TargetKept d (givePowerOff d) :=
  .ite (.trans (requestOff_targetKept d) (jobPowerOff_targetKept _)) (requestOff_targetKept d)

theorem cyclePowerOff_targetKept : TargetKept d (cyclePowerOff d) :=
  .ite (.after_same (jobPowerOff_targetKept _) rfl) (.of_same rfl)

theorem fallDone_targetKept : TargetKept d (fallDone d) := by
  have reached : TargetKept d (jobPowerOff (setPower { d.power with state := .off } d)) :=
    .after_same (jobPowerOff_targetKept _) rfl
  exact .ite (reached.trans (.of_same rfl)) reached

theorem dwellEnd_targetKept : TargetKept d (dwellEnd d) := .ite (.of_same rfl) (.refl d)

theorem dwellMark_targetKept : TargetKept d (dwellMark d) := by
  unfold dwellMark
  split
  · exact .ite (dwellEnd_targetKept d) (.of_same rfl)
  · exact .refl d

/-- A trip in PAUSED with the finish due closes the job, so RECOVERING follows a run under its target (R170). -/
theorem jobTrip_targetKept : TargetKept d (jobTrip d) := by
  have stop := giveLanes_targetKept d .stop
  have closing : ∀ r, TargetKept d (closingTest (enterClosing r (giveLanes .stop d))) := fun r =>
    stop.trans (.trans (enterClosing_targetKept _ r) (closingTest_targetKept _))
  have recovering : ∀ j : Job, j.target = (giveLanes .stop d).job.target →
      j.cycles = (giveLanes .stop d).job.cycles → underTarget d.job = true →
      TargetKept d (setJob j (giveLanes .stop d)) := fun j target cycles under =>
    stop.trans (.of_record target cycles fun _ => by rwa [giveLanes_job])
  unfold jobTrip
  split
  · exact closingTest_targetKept d
  iterate 4 exact .refl d
  all_goals
    dsimp only
    split_ifs
    · exact closing .target
    · exact recovering _ rfl rfl (by simp_all [underTarget])
    · exact closing .exhausted

/-! ### Counted cycles and code runs (R68 to R83, R164, R165) -/

/-- A counted CYCLE raises the count by one, in the state that it finds (R164). -/
theorem countCycle_job : (countCycle d).job.target = d.job.target ∧
    (countCycle d).job.cycles = d.job.cycles + 1 ∧ (countCycle d).job.state = d.job.state := by
  rw [countCycle, stagedInForce, inForce_job]
  exact ⟨rfl, rfl, rfl⟩

/-- Where the count meets the target the run closes, or in PAUSED has its finish due; elsewhere the target is still
ahead (R164, R165). -/
theorem jobCycle_targetKept (giving : Bool) : TargetKept d (jobCycle giving d).1 := by
  intro inv
  obtain ⟨target, cycles, state⟩ := countCycle_job d
  unfold jobCycle
  dsimp only
  by_cases counts : countsCycle d.job = true
  · have count := targetMet_or_below (.of_under inv (underTarget_of_countsCycle counts)) target cycles
    rw [if_pos counts]
    by_cases met : targetMet (countCycle d).job = true
    · rw [if_pos met]
      split_ifs with paused
      · exact targetInv_of_targetMet met rfl rfl (by simp [underTarget, state, paused])
      · exact TargetKept.of_same (stagedInForce_course _) (targetInv_of_targetMet met rfl rfl nofun)
    · have below := count.resolve_left met
      rw [if_neg met]
      split_ifs
      · exact targetInv_of_below below
      · exact cyclePowerOff_targetKept _ (targetInv_of_below below)
      · exact targetInv_of_below below
  · rw [if_neg counts]
    exact inv

theorem strobe_targetKept (i : LaneId) (tag expected mask : Byte) : TargetKept d (strobe i tag expected mask d) := by
  have judged : ∀ failing x pin, TargetKept x (judgePin i tag failing mask x pin) := fun _ x _ =>
    .ite (takeEvent_targetKept x _ _) (.ite (opportunity_targetKept x _) (.refl x))
  exact .ite (.refl d) (.trans (.foldl (judged _) _ d) (.of_same rfl))

theorem openWindow_targetKept (i : LaneId) (tag : Byte) : TargetKept d (openWindow i tag d) :=
  .of_same (by rw [openWindow_job])

theorem closeWindow_targetKept (i : LaneId) (tag : Byte) (w : Word) : TargetKept d (closeWindow i tag w d) :=
  .ite (.after_same (raiseCause_targetKept _ _) rfl)
    (.ite (.of_same rfl) (.ite (.of_same rfl) (.after_same (takeEvent_targetKept _ _ _) rfl)))

theorem codeFault_targetKept (k : FaultKind) (i : LaneId) : TargetKept d (codeFault k i d) :=
  .after_same (raiseCause_targetKept _ .codeFault) rfl

theorem markCode_targetKept (giving : Bool) (k : Byte) (i : LaneId) :
    TargetKept d (markCode giving k i d).device := by
  unfold markCode
  split_ifs
  · exact jobCycle_targetKept d giving
  · exact .refl d
  · exact .after_same (raiseCause_targetKept _ _) rfl

theorem oneCode_targetKept (giving : Bool) (i : LaneId) : TargetKept d (oneCode giving i d).device := by
  unfold oneCode
  dsimp only
  split_ifs
  · exact codeFault_targetKept d _ i
  cases decodeCode (patternRead d.pattern (lane d i).position) with
  | loop n =>
    dsimp only [repeatCode]
    split_ifs
    · exact codeFault_targetKept d _ i
    · exact .of_same rfl
  | again =>
    dsimp only [againCode]
    split
    · exact codeFault_targetKept d _ i
    · split_ifs <;> exact .of_same rfl
  | strobe tag => exact .after_same (strobe_targetKept _ i tag _ _) rfl
  | openWindow tag => exact .after_same (openWindow_targetKept _ i tag) rfl
  | closeWindow tag => exact .after_same (closeWindow_targetKept _ i tag _) rfl
  | mark k => exact .after_same (markCode_targetKept _ giving k i) rfl
  | wrap =>
    dsimp only [wrapCode]
    split_ifs <;> exact .of_same rfl
  | undefinedCode => exact codeFault_targetKept d _ i
  | _ => exact .of_same rfl

theorem lastCode_targetKept (i : LaneId) : TargetKept d (lastCode i d) := by
  unfold lastCode
  split
  · exact .of_same rfl
  · exact .of_same rfl
  · exact codeFault_targetKept d _ i

theorem codeRun_targetKept (giving : Bool) (i : LaneId) (k : Nat) : TargetKept d (codeRun giving i k d).1 := by
  induction k generalizing d with
  | zero => exact .ite (codeFault_targetKept d _ i) (lastCode_targetKept d i)
  | succ k ih =>
    have one := oneCode_targetKept d giving i
    unfold codeRun
    split_ifs
    · exact codeFault_targetKept d _ i
    · rcases result : oneCode giving i d with d1 | ⟨d1, later⟩ <;> rw [result] at one
      · exact one
      · exact one.trans (ih d1)

/-! ### Step events, starts and resumes (R86, R87, R93, R163) -/

theorem stepCore_targetKept (giving : Bool) (i : LaneId) : TargetKept d (stepCore giving i d).1 := by
  have run : TargetKept d (codeRun giving i Config.runLimit (takeSample i d)).1 :=
    .after_same (codeRun_targetKept _ giving i Config.runLimit) rfl
  unfold stepCore
  dsimp only
  split_ifs
  · exact .of_same rfl
  · exact run.trans (.of_same rfl)
  · exact run
  · exact run.trans (closingTest_targetKept _)

theorem deliver_targetKept (later : List Deferred) : TargetKept d (deliver later d) := by
  refine .foldl (fun x r => ?_) later d
  cases r with
  | request r => exact giveLanesAndTest_targetKept x r
  | powerOff => exact cyclePowerOff_targetKept x
  | report => exact closingTest_targetKept x

theorem stepExpiry_targetKept (i : LaneId) : TargetKept d (stepExpiry i d) := by
  unfold stepExpiry
  split
  · exact .ite (.after_same (.trans (stepCore_targetKept _ false i) (deliver_targetKept _ _)) rfl) (.refl d)
  · exact .refl d
  · exact .refl d

theorem startLane_targetKept (i : LaneId) : TargetKept d (startLane i d).1 := by
  unfold startLane
  dsimp only
  split_ifs
  · exact .after_same (stepCore_targetKept _ true i) rfl
  · exact .of_same rfl

theorem startLanes_targetKept (is : List LaneId) : TargetKept d (startLanes is d).1 := by
  induction is generalizing d with
  | nil => exact .refl d
  | cons i is ih => exact (startLane_targetKept d i).trans (ih _)

theorem jobPowerOn_targetKept : TargetKept d (jobPowerOn d) := by
  unfold jobPowerOn
  split_ifs with awaits
  · have running : TargetKept d (setJob { d.job with state := .running, phase := none } d) :=
      .of_record rfl rfl fun _ => underTarget_of_awaitsOn awaits
    exact running.trans (.trans (startLanes_targetKept _ _) (deliver_targetKept _ _))
  · exact .refl d

theorem resumeSteps_targetKept (is : List LaneId) : TargetKept d (resumeSteps is d).1 := by
  induction is generalizing d with
  | nil => exact .refl d
  | cons i is ih =>
    have step : TargetKept d (if (lane d i).state.going then stepCore false i d else (d, [])).1 := by
      split_ifs
      · exact stepCore_targetKept d false i
      · exact .refl d
    exact step.trans (ih _)

theorem resumeLane_targetKept (i : LaneId) : TargetKept d (resumeLane d i) :=
  .ite (.ite (.of_same rfl) (.of_same rfl)) (.refl d)

theorem giveResume_targetKept : TargetKept d (giveResume d) := by
  have lanes : TargetKept d (allLanes.foldl resumeLane d) := .foldl resumeLane_targetKept _ d
  unfold giveResume
  refine .trans (.trans ?_ (resumeSteps_targetKept _ _)) (deliver_targetKept _ _)
  exact .ite (lanes.trans (closingTest_targetKept _)) lanes

/-! ### Samples and the board (R51 to R57) -/

theorem fullScaleCause_targetKept (was : Bool) (v : Nat) : TargetKept d (fullScaleCause was v d) :=
  .ite (raiseCause_targetKept d _) (.refl d)

theorem tripWith_targetKept (c : Cause) (r : RailId) (disturb : Bool) : TargetKept d (tripWith c r disturb d) := by
  have event : TargetKept d (takeEvent (.trip r) d.link.frame (raiseCause c (setPower (tripped d.power) d))) :=
    .after_same (.trans (raiseCause_targetKept _ c) (takeEvent_targetKept _ _ _)) rfl
  have request := TargetKept.ite (c := disturb = true)
    (event.trans (requestDisturb_targetKept _ d.link.frame .rail)) event
  have left := TargetKept.ite (c := d.power.state = .on) (request.trans (giveLanes_targetKept _ .powerLeft)) request
  exact left.trans (jobTrip_targetKept _)

theorem railGlitch_targetKept (r : RailId) (f : Frame) : TargetKept d (railGlitch r f d) :=
  .trans (.trans (.trans (raiseCause_targetKept d _) (takeEvent_targetKept _ _ _)) (requestDisturb_targetKept _ _ _))
    (.of_same rfl)

theorem superviseCurrent_targetKept (v : Nat) : TargetKept d (superviseCurrent v d) :=
  .ite (.ite (.ite (tripWith_targetKept d _ _ _) (.of_same rfl)) (.of_same rfl)) (.refl d)

theorem superviseRail_targetKept (r : RailId) : TargetKept d (superviseRail r d) :=
  .ite (.ite (.refl d) (railGlitch_targetKept d _ _))
    (.ite (.after_same (tripWith_targetKept _ _ _ _) rfl) (.of_same rfl))

theorem sampleRail_targetKept (r : RailId) (v : Nat) : TargetKept d (sampleRail r v d) := by
  have stored : ∀ p : Power, TargetKept d (fullScaleCause d.power.rails[r].fullScale v (setPower p d)) :=
    fun p => .after_same (fullScaleCause_targetKept _ _ _) rfl
  unfold sampleRail
  dsimp only
  split
  · exact (stored _).trans (superviseRail_targetKept _ _)
  · exact .ite ((stored _).trans (fallDone_targetKept _)) (stored _)
  all_goals exact stored _

theorem sampleChannel_targetKept (c : Channel) (v : Nat) : TargetKept d (sampleChannel c v d) := by
  cases c with
  | rail r => exact sampleRail_targetKept d r v
  | current =>
    exact .after_same (.trans (fullScaleCause_targetKept _ _ _) (superviseCurrent_targetKept _ _)) rfl

/-! ### The blocks at a mark (R3, R55 to R57, R111, R119) -/

theorem riseEndTest_targetKept : TargetKept d (riseEndTest d) := by
  unfold riseEndTest
  split
  · have credited : TargetKept d (tripOpportunities (setPower (risen d.power) d)) :=
      .after_same (.foldl (fun x _ => opportunity_targetKept x _) _ _) rfl
    exact credited.trans (jobPowerOn_targetKept _)
  · exact .after_same (tripWith_targetKept _ _ _ _) rfl

theorem powerMark_targetKept : TargetKept d (powerMark d) := by
  have credited : TargetKept d (glitchOpportunities d.power d) :=
    .foldl (fun x _ => .ite (.refl x) (opportunity_targetKept x _)) _ d
  unfold powerMark
  split
  · exact credited.trans (.of_same rfl)
  · exact .ite (riseEndTest_targetKept d) (.of_same rfl)
  · exact .ite (.after_same (fallDone_targetKept _) rfl) (.of_same rfl)
  all_goals exact .of_same rfl

theorem monitorMark_targetKept (v : MarkView) : TargetKept d (monitorMark v d) := by
  refine .trans ?_ (powerMark_targetKept _)
  cases v.temperature with
  | sensorOpen => exact raiseCause_targetKept d _
  | halfDegrees t => exact .ite (.of_same rfl) (.after_same (raiseCause_targetKept _ _) rfl)

theorem settleMark_targetKept : TargetKept d (settleMark d) :=
  .ite (.trans (settleDue_targetKept d) (closingTest_targetKept _)) (settleDue_targetKept d)

theorem settleAndMonitor_targetKept (v : MarkView) : TargetKept d (settleAndMonitor v d) :=
  .ite (.trans (settleMark_targetKept d) (monitorMark_targetKept _ v))
    (.trans (monitorMark_targetKept d v) (settleMark_targetKept _))

theorem handleMark_targetKept (view : MarkView) : TargetKept d (handleMark view d) := by
  have viewed : TargetKept d (peerMark d) := by
    rw [peerMark_eq]
    exact .of_same rfl
  have begun : TargetKept d (tallyShift (dwellMark (peerMark d))) :=
    (viewed.trans (dwellMark_targetKept _)).trans (.of_same rfl)
  unfold handleMark
  dsimp only
  split_ifs
  · exact begun.trans (.trans (offerAll_targetKept _) (settleAndMonitor_targetKept _ view))
  · exact begun.trans (.trans (settleAndMonitor_targetKept _ view) (offerAll_targetKept _))

/-! ### Command items (R67, R158 to R171, R192) -/

theorem bodyLoad_targetKept (args : List Byte) : TargetKept d (bodyLoad args d).1 := by
  unfold bodyLoad
  dsimp only
  split_ifs <;> exact .of_same rfl

/-- JOB-LANES counts from 0 against the target that it sets (R159). -/
theorem bodyJobLanes_targetKept (args : List Byte) : TargetKept d (bodyJobLanes args d).1 := by
  unfold bodyJobLanes
  dsimp only
  split_ifs
  iterate 3 exact .refl d
  all_goals exact fun _ => targetInv_of_below (.of_zero rfl)

/-- START counts from 0 (R162). -/
theorem startJob_targetKept (keep : Bool) : TargetKept d (startJob keep d) := by
  have powered : TargetKept d (givePower (if keep then clearEverFailed (setJob (startedJob d.job) d)
      else clearTable (clearEverFailed (setJob (startedJob d.job) d)))) := by
    cases keep <;> exact fun _ => targetInv_of_below (.of_zero rfl)
  exact .ite (powered.trans (jobPowerOn_targetKept _)) powered

theorem bodyPause_targetKept : TargetKept d (bodyPause d).1 := by
  unfold bodyPause
  split_ifs with running
  · have paused : TargetKept d (setJob { d.job with state := .paused } d) :=
      .of_record rfl rfl fun _ => by rw [underTarget, running]
    exact paused.trans (giveLanesAndTest_targetKept _ .hold)
  · exact .refl d

/-- A RESUME with the finish due closes the job, so RUNNING follows a run under its target (R167). -/
theorem bodyResume_targetKept : TargetKept d (bodyResume d).1 := by
  unfold bodyResume
  split_ifs with paused due
  · exact (enterClosing_targetKept d .target).trans ((giveResume_targetKept _).trans (closingTest_targetKept _))
  · have running : TargetKept d (setJob { d.job with state := .running } d) :=
      .of_record rfl rfl fun _ => by simpa [underTarget, paused] using due
    exact running.trans (giveResume_targetKept _)
  · exact .refl d

theorem abortJob_targetKept : TargetKept d (abortJob d) := by
  unfold abortJob
  refine .trans (.trans (.trans ?_ (giveLanes_targetKept _ .stop)) (requestOff_targetKept _)) (closingTest_targetKept _)
  exact .ite (.of_same rfl) (enterClosing_targetKept d _)

/-- A warm restart leaves the job READY or EMPTY, with its count and its target (R156, R192). -/
theorem warmRestart_targetKept : TargetKept d (warmRestart d) := by
  refine .of_record rfl rfl fun under => ?_
  dsimp only [warmRestart, Job.restarted, underTarget] at under
  split_ifs at under

end

/-! ### The walk -/

theorem targetInv_kept : KeptByParts fun d => TargetInv d.job where
  same h := TargetKept.of_same (by rw [h.job])
  cold _ _ := nofun
  sample c v d := sampleChannel_targetKept d c v
  stepExpiry i d := stepExpiry_targetKept d i
  dwellEnd := dwellEnd_targetKept
  mark view d := handleMark_targetKept d view
  load args d := bodyLoad_targetKept d args
  jobLanes args d := bodyJobLanes_targetKept d args
  settings n d := acceptSettings_targetKept d n
  start keep d := startJob_targetKept d keep
  pause := bodyPause_targetKept
  resume := bodyResume_targetKept
  abort := abortJob_targetKept
  power _ := id
  powerOff := givePowerOff_targetKept
  clearTable _ := id
  pin _ _ _ := id
  restart := warmRestart_targetKept

end Sys2Proof.Machine

namespace Sys2Proof.Proofs

open Sys2Proof.Machine Sys2Proof.Safety

/-- Settles O59: a cycle is counted only below the target, and the run that meets it is left in the same handling. -/
theorem stepKeepsCyclesWithinTarget : Obligations.StepKeepsCyclesWithinTarget :=
  fun _ _ inv next => step_kept targetInv_kept inv next

end Sys2Proof.Proofs
end
